-- ==== Sys2Proof/Word.lean ====
section
/-!
DEFINITION. The word types of the SG128 datapath: the widths of rules R6, R21, R24, R25 and R41, the register
numbers of rule R61 and the four vector kinds of rule R22.
-/

namespace Sys2Proof

/-- The contents of a vector register: 128 bits, untyped (R21). -/
abbrev Vec := BitVec 128

/-- The contents of a scalar register: 64 bits, untyped (R24). -/
abbrev Scalar := BitVec 64

/-- A 32-bit word: an instruction (R60), a `pc` (R25), a data address (R41) or a host register (R26). -/
abbrev Word := BitVec 32

/-- One byte of either memory (R41, R42). -/
abbrev Byte := BitVec 8

/-- The number of a vector register, `v0` .. `v15` (R21). -/
abbrev VReg := Fin 16

/-- The number of a scalar register, `s0` .. `s15` (R24). -/
abbrev SReg := Fin 16

/-- The vector kinds of R22. A mask kind is named by the vector kind it matches. A kind is a property of an
instruction, never of a register (R21). -/
inductive Kind where
  /-- Four 32-bit two's complement integers. -/
  | pi32
  /-- Two 64-bit two's complement integers. -/
  | pi64
  /-- Four IEEE-754 binary32 numbers. -/
  | ps
  /-- Two IEEE-754 binary64 numbers. -/
  | pd
  deriving DecidableEq, Repr

end Sys2Proof
end

