-- ==== Sys2Proof/Syntax.lean ====
section
/-!
DEFINITION. The instructions: one constructor for each of the 245 rows of spec/opcode_table.json, named after its mnemonic,
its operands in the order of R68 (destination first) with the field each is read from (R61, R62). `VReg` and `SReg` say which
register file a field names. `imm8` is the raw immediate field (R64); WellFormed.lean holds its legal ranges. The constructors
stand in the order of the table, but for `halt`, the one without operands, which stands last (Lean's runtime numbers
at most 244 constructors that have operands).
-/

namespace Sys2Proof

/-- The instructions of SG128 (R65). -/
inductive Instr where
  /- `OP` 0x10, format V0, R101. -/
  | setzeroPi32 (rd : VReg)
  | setzeroPi64 (rd : VReg)
  | setzeroPs (rd : VReg)
  | setzeroPd (rd : VReg)
  /- `OP` 0x11, format VS1, R102. -/
  | set1Pi32 (rd : VReg) (ra : SReg)
  | set1Pi64 (rd : VReg) (ra : SReg)
  | set1Ps (rd : VReg) (ra : SReg)
  | set1Pd (rd : VReg) (ra : SReg)
  /- `OP` 0x12, format VS4 or VS2, R103. -/
  | setPi32 (rd : VReg) (ra rb rc re : SReg)
  | setPi64 (rd : VReg) (ra rb : SReg)
  | setPs (rd : VReg) (ra rb rc re : SReg)
  | setPd (rd : VReg) (ra rb : SReg)
  /- `OP` 0x13, format VS4 or VS2, R104. -/
  | setFromU32Pi32 (rd : VReg) (ra rb rc re : SReg)
  | setFromU64Pi64 (rd : VReg) (ra rb : SReg)
  | setFromU32Ps (rd : VReg) (ra rb rc re : SReg)
  | setFromU64Pd (rd : VReg) (ra rb : SReg)
  /- `OP` 0x14, format VS4 or VS2, R105. -/
  | setMaskPi32 (rd : VReg) (ra rb rc re : SReg)
  | setMaskPi64 (rd : VReg) (ra rb : SReg)
  | setMaskPs (rd : VReg) (ra rb rc re : SReg)
  | setMaskPd (rd : VReg) (ra rb : SReg)
  /- `OP` 0x15, format SVI, R106, R107. -/
  | getPi32 (rd : SReg) (ra : VReg) (imm8 : Byte)
  | getPi64 (rd : SReg) (ra : VReg) (imm8 : Byte)
  | getPs (rd : SReg) (ra : VReg) (imm8 : Byte)
  | getPd (rd : SReg) (ra : VReg) (imm8 : Byte)
  /- `OP` 0x16, format VVSI, R108. -/
  | setlanePi32 (rd ra : VReg) (rb : SReg) (imm8 : Byte)
  | setlanePi64 (rd ra : VReg) (rb : SReg) (imm8 : Byte)
  | setlanePs (rd ra : VReg) (rb : SReg) (imm8 : Byte)
  | setlanePd (rd ra : VReg) (rb : SReg) (imm8 : Byte)
  /- `OP` 0x17, format LD, R115. -/
  | loadUnalignedPi32 (rd : VReg) (ra : SReg) (imm8 : Byte)
  | loadUnalignedPi64 (rd : VReg) (ra : SReg) (imm8 : Byte)
  | loadUnalignedPs (rd : VReg) (ra : SReg) (imm8 : Byte)
  | loadUnalignedPd (rd : VReg) (ra : SReg) (imm8 : Byte)
  /- `OP` 0x18, format ST, R116. -/
  | storeUnalignedPi32 (rb : VReg) (ra : SReg) (imm8 : Byte)
  | storeUnalignedPi64 (rb : VReg) (ra : SReg) (imm8 : Byte)
  | storeUnalignedPs (rb : VReg) (ra : SReg) (imm8 : Byte)
  | storeUnalignedPd (rb : VReg) (ra : SReg) (imm8 : Byte)
  /- `OP` 0x19, format SVV, R117. -/
  | debugEqPi32 (rd : SReg) (ra rb : VReg)
  | debugEqPi64 (rd : SReg) (ra rb : VReg)
  | debugEqPs (rd : SReg) (ra rb : VReg)
  | debugEqPd (rd : SReg) (ra rb : VReg)
  /- `OP` 0x20, format VV, R131. -/
  | bitcastPi32Pi64 (rd ra : VReg)
  | bitcastPi32Ps (rd ra : VReg)
  | bitcastPi32Pd (rd ra : VReg)
  | bitcastPi64Pi32 (rd ra : VReg)
  | bitcastPi64Ps (rd ra : VReg)
  | bitcastPi64Pd (rd ra : VReg)
  | bitcastPsPi32 (rd ra : VReg)
  | bitcastPsPi64 (rd ra : VReg)
  | bitcastPsPd (rd ra : VReg)
  | bitcastPdPi32 (rd ra : VReg)
  | bitcastPdPi64 (rd ra : VReg)
  | bitcastPdPs (rd ra : VReg)
  /- `OP` 0x21, format VV, R132. -/
  | bitcastCmpPi32Pi64 (rd ra : VReg)
  | bitcastCmpPi32Ps (rd ra : VReg)
  | bitcastCmpPi32Pd (rd ra : VReg)
  | bitcastCmpPi64Pi32 (rd ra : VReg)
  | bitcastCmpPi64Ps (rd ra : VReg)
  | bitcastCmpPi64Pd (rd ra : VReg)
  | bitcastCmpPsPi32 (rd ra : VReg)
  | bitcastCmpPsPi64 (rd ra : VReg)
  | bitcastCmpPsPd (rd ra : VReg)
  | bitcastCmpPdPi32 (rd ra : VReg)
  | bitcastCmpPdPi64 (rd ra : VReg)
  | bitcastCmpPdPs (rd ra : VReg)
  /- `OP` 0x22, format SS, R133. -/
  | sbitcastU32I32 (rd ra : SReg)
  | sbitcastU32F32 (rd ra : SReg)
  | sbitcastI32U32 (rd ra : SReg)
  | sbitcastI32F32 (rd ra : SReg)
  | sbitcastF32U32 (rd ra : SReg)
  | sbitcastF32I32 (rd ra : SReg)
  | sbitcastU64I64 (rd ra : SReg)
  | sbitcastU64F64 (rd ra : SReg)
  | sbitcastI64U64 (rd ra : SReg)
  | sbitcastI64F64 (rd ra : SReg)
  | sbitcastF64U64 (rd ra : SReg)
  | sbitcastF64I64 (rd ra : SReg)
  /- `OP` 0x30, format VVI, R141, R142. -/
  | shufflePi32 (rd ra : VReg) (imm8 : Byte)
  | shufflePi64 (rd ra : VReg) (imm8 : Byte)
  | shufflePs (rd ra : VReg) (imm8 : Byte)
  | shufflePd (rd ra : VReg) (imm8 : Byte)
  /- `OP` 0x40, format VVV, R171, R172. -/
  | addPi32 (rd ra rb : VReg)
  | addPi64 (rd ra rb : VReg)
  | addPs (rd ra rb : VReg)
  | addPd (rd ra rb : VReg)
  /- `OP` 0x41, format VVV, R173, R174. -/
  | subPi32 (rd ra rb : VReg)
  | subPi64 (rd ra rb : VReg)
  | subPs (rd ra rb : VReg)
  | subPd (rd ra rb : VReg)
  /- `OP` 0x42, format VVV, R175, R177. -/
  | mulPi32 (rd ra rb : VReg)
  | mulPi64 (rd ra rb : VReg)
  | mulPs (rd ra rb : VReg)
  | mulPd (rd ra rb : VReg)
  /- `OP` 0x43, format VVV, R178, R180. -/
  | divPi32 (rd ra rb : VReg)
  | divPi64 (rd ra rb : VReg)
  | divPs (rd ra rb : VReg)
  | divPd (rd ra rb : VReg)
  /- `OP` 0x44, format VVVV, R182. -/
  | mulAddPs (rd ra rb rc : VReg)
  | mulAddPd (rd ra rb rc : VReg)
  /- `OP` 0x45, format VVV, R183, R184. -/
  | safedivPi32 (rd ra rb : VReg)
  | safedivPi64 (rd ra rb : VReg)
  | safedivPs (rd ra rb : VReg)
  | safedivPd (rd ra rb : VReg)
  /- `OP` 0x46, format VV, R185, R186. -/
  | negPi32 (rd ra : VReg)
  | negPi64 (rd ra : VReg)
  | negPs (rd ra : VReg)
  | negPd (rd ra : VReg)
  /- `OP` 0x47, format VV, R187, R188. -/
  | absPi32 (rd ra : VReg)
  | absPi64 (rd ra : VReg)
  | absPs (rd ra : VReg)
  | absPd (rd ra : VReg)
  /- `OP` 0x50, format VVV, R201. -/
  | andPi32 (rd ra rb : VReg)
  | andPi64 (rd ra rb : VReg)
  | andPs (rd ra rb : VReg)
  | andPd (rd ra rb : VReg)
  /- `OP` 0x51, format VVV, R202. -/
  | andnotPi32 (rd ra rb : VReg)
  | andnotPi64 (rd ra rb : VReg)
  | andnotPs (rd ra rb : VReg)
  | andnotPd (rd ra rb : VReg)
  /- `OP` 0x52, format VVV, R203. -/
  | orPi32 (rd ra rb : VReg)
  | orPi64 (rd ra rb : VReg)
  | orPs (rd ra rb : VReg)
  | orPd (rd ra rb : VReg)
  /- `OP` 0x53, format VVV, R204. -/
  | xorPi32 (rd ra rb : VReg)
  | xorPi64 (rd ra rb : VReg)
  | xorPs (rd ra rb : VReg)
  | xorPd (rd ra rb : VReg)
  /- `OP` 0x54, format VV, R205. -/
  | notPi32 (rd ra : VReg)
  | notPi64 (rd ra : VReg)
  | notPs (rd ra : VReg)
  | notPd (rd ra : VReg)
  /- `OP` 0x60, format VVI, R211. -/
  | slImmPi32 (rd ra : VReg) (imm8 : Byte)
  | slImmPi64 (rd ra : VReg) (imm8 : Byte)
  /- `OP` 0x61, format VVI, R212. -/
  | srlImmPi32 (rd ra : VReg) (imm8 : Byte)
  | srlImmPi64 (rd ra : VReg) (imm8 : Byte)
  /- `OP` 0x62, format VVI, R213. -/
  | sraImmPi32 (rd ra : VReg) (imm8 : Byte)
  | sraImmPi64 (rd ra : VReg) (imm8 : Byte)
  /- `OP` 0x63, format VVV, R217. -/
  | slPi32 (rd ra rb : VReg)
  | slPi64 (rd ra rb : VReg)
  /- `OP` 0x64, format VVV, R218. -/
  | srlPi32 (rd ra rb : VReg)
  | srlPi64 (rd ra rb : VReg)
  /- `OP` 0x65, format VVV, R219. -/
  | sraPi32 (rd ra rb : VReg)
  | sraPi64 (rd ra rb : VReg)
  /- `OP` 0x70, format VVV, R226. -/
  | cmpltPi32 (rd ra rb : VReg)
  | cmpltPi64 (rd ra rb : VReg)
  | cmpltPs (rd ra rb : VReg)
  | cmpltPd (rd ra rb : VReg)
  /- `OP` 0x71, format VVV, R227. -/
  | cmplePi32 (rd ra rb : VReg)
  | cmplePi64 (rd ra rb : VReg)
  | cmplePs (rd ra rb : VReg)
  | cmplePd (rd ra rb : VReg)
  /- `OP` 0x72, format VVV, R228. -/
  | cmpeqPi32 (rd ra rb : VReg)
  | cmpeqPi64 (rd ra rb : VReg)
  | cmpeqPs (rd ra rb : VReg)
  | cmpeqPd (rd ra rb : VReg)
  /- `OP` 0x73, format VVV, R229. -/
  | cmpneqPi32 (rd ra rb : VReg)
  | cmpneqPi64 (rd ra rb : VReg)
  | cmpneqPs (rd ra rb : VReg)
  | cmpneqPd (rd ra rb : VReg)
  /- `OP` 0x74, format VVV, R230. -/
  | cmpgePi32 (rd ra rb : VReg)
  | cmpgePi64 (rd ra rb : VReg)
  | cmpgePs (rd ra rb : VReg)
  | cmpgePd (rd ra rb : VReg)
  /- `OP` 0x75, format VVV, R231. -/
  | cmpgtPi32 (rd ra rb : VReg)
  | cmpgtPi64 (rd ra rb : VReg)
  | cmpgtPs (rd ra rb : VReg)
  | cmpgtPd (rd ra rb : VReg)
  /- `OP` 0x78, format VVV, R233. -/
  | andCmpPi32 (rd ra rb : VReg)
  | andCmpPi64 (rd ra rb : VReg)
  | andCmpPs (rd ra rb : VReg)
  | andCmpPd (rd ra rb : VReg)
  /- `OP` 0x79, format VVV, R234. -/
  | orCmpPi32 (rd ra rb : VReg)
  | orCmpPi64 (rd ra rb : VReg)
  | orCmpPs (rd ra rb : VReg)
  | orCmpPd (rd ra rb : VReg)
  /- `OP` 0x7A, format VVV, R235. -/
  | xorCmpPi32 (rd ra rb : VReg)
  | xorCmpPi64 (rd ra rb : VReg)
  | xorCmpPs (rd ra rb : VReg)
  | xorCmpPd (rd ra rb : VReg)
  /- `OP` 0x7B, format VVV, R236. -/
  | cmpeqCmpPi32 (rd ra rb : VReg)
  | cmpeqCmpPi64 (rd ra rb : VReg)
  | cmpeqCmpPs (rd ra rb : VReg)
  | cmpeqCmpPd (rd ra rb : VReg)
  /- `OP` 0x7C, format VV, R237. -/
  | notCmpPi32 (rd ra : VReg)
  | notCmpPi64 (rd ra : VReg)
  | notCmpPs (rd ra : VReg)
  | notCmpPd (rd ra : VReg)
  /- `OP` 0x7D, format VV, R240, R241, R242. -/
  | cvtcmpPi32Pi64 (rd ra : VReg)
  | cvtcmpPi32Ps (rd ra : VReg)
  | cvtcmpPi32Pd (rd ra : VReg)
  | cvtcmpPi64Pi32 (rd ra : VReg)
  | cvtcmpPi64Ps (rd ra : VReg)
  | cvtcmpPi64Pd (rd ra : VReg)
  | cvtcmpPsPi32 (rd ra : VReg)
  | cvtcmpPsPi64 (rd ra : VReg)
  | cvtcmpPsPd (rd ra : VReg)
  | cvtcmpPdPi32 (rd ra : VReg)
  | cvtcmpPdPi64 (rd ra : VReg)
  | cvtcmpPdPs (rd ra : VReg)
  /- `OP` 0x7E, format VVV, R239. -/
  | andnotCmpPi32 (rd ra rb : VReg)
  | andnotCmpPi64 (rd ra rb : VReg)
  | andnotCmpPs (rd ra rb : VReg)
  | andnotCmpPd (rd ra rb : VReg)
  /- `OP` 0x80, format VVVV, R256. -/
  | choosePi32 (rd ra rb rc : VReg)
  | choosePi64 (rd ra rb rc : VReg)
  | choosePs (rd ra rb rc : VReg)
  | choosePd (rd ra rb rc : VReg)
  /- `OP` 0x81, format VVV, R258. -/
  | chooseElseZeroPi32 (rd ra rb : VReg)
  | chooseElseZeroPi64 (rd ra rb : VReg)
  | chooseElseZeroPs (rd ra rb : VReg)
  | chooseElseZeroPd (rd ra rb : VReg)
  /- `OP` 0x90, format VVV, R259. -/
  | minPi32 (rd ra rb : VReg)
  | minPi64 (rd ra rb : VReg)
  /- `OP` 0x91, format VVV, R260. -/
  | maxPi32 (rd ra rb : VReg)
  | maxPi64 (rd ra rb : VReg)
  /- `OP` 0x92, format VVV, R261. -/
  | minFastPs (rd ra rb : VReg)
  | minFastPd (rd ra rb : VReg)
  /- `OP` 0x93, format VVV, R263. -/
  | maxFastPs (rd ra rb : VReg)
  | maxFastPd (rd ra rb : VReg)
  /- `OP` 0x94, format VVVV, R264, R265. -/
  | constrainPi32 (rd ra rb rc : VReg)
  | constrainPi64 (rd ra rb rc : VReg)
  | constrainPs (rd ra rb rc : VReg)
  | constrainPd (rd ra rb rc : VReg)
  /- `OP` 0x95, format VV, R266. -/
  | removeSignedZeroPs (rd ra : VReg)
  | removeSignedZeroPd (rd ra : VReg)
  /- `OP` 0xA0, format VV, R281, R282, R283, R284, R285, R286, R288, R289, R290, R291, R294, R295. -/
  | cvtPi32Pi64 (rd ra : VReg)
  | cvtPi32Ps (rd ra : VReg)
  | cvtPi32Pd (rd ra : VReg)
  | cvtPi64Pi32 (rd ra : VReg)
  | cvtPi64Ps (rd ra : VReg)
  | cvtPi64Pd (rd ra : VReg)
  | cvtPsPi32 (rd ra : VReg)
  | cvtPsPi64 (rd ra : VReg)
  | cvtPsPd (rd ra : VReg)
  | cvtPdPi32 (rd ra : VReg)
  | cvtPdPi64 (rd ra : VReg)
  | cvtPdPs (rd ra : VReg)
  /- `OP` 0xA1, format VV, R292. -/
  | cvttPsPi32 (rd ra : VReg)
  | cvttPsPi64 (rd ra : VReg)
  | cvttPdPi32 (rd ra : VReg)
  | cvttPdPi64 (rd ra : VReg)
  /- `OP` 0xA2, format VV, R293. -/
  | cvtfPsPi32 (rd ra : VReg)
  | cvtfPsPi64 (rd ra : VReg)
  | cvtfPdPi32 (rd ra : VReg)
  | cvtfPdPi64 (rd ra : VReg)
  /- `OP` 0x01, format Z, R100. -/
  | halt
  deriving DecidableEq, Repr

end Sys2Proof
end

