-- ==== Sys2Proof/WellFormed.lean ====
section
/-!
DEFINITION. Which instructions are well formed: those whose `imm8` lies in the range R64 gives it (the `imm8_range` of the row).
Every other field of an instruction admits all its values (R66: "A register number is always legal").
-/

namespace Sys2Proof

/-- A lane index of an `N`-lane kind is 0 .. N-1 (R64). -/
def laneIndexOk (N : Nat) (imm8 : Byte) : Bool := imm8.toNat < N

/-- The selector of a 2-lane shuffle is 0 .. 3 (R64, R140). -/
def selector2Ok (imm8 : Byte) : Bool := imm8.toNat ≤ 3

/-- An immediate shift count of a `W`-bit lane is 0 .. W-1 (R64, R211). -/
def shiftCountOk (W : Nat) (imm8 : Byte) : Bool := imm8.toNat < W

/-- The instructions some word encodes (R60, R64). -/
def Instr.wellFormed : Instr → Bool
  | .setzeroPi32 .. | .setzeroPi64 .. | .setzeroPs .. | .setzeroPd .. | .set1Pi32 .. | .set1Pi64 .. | .set1Ps ..
  | .set1Pd .. | .setPi32 .. | .setPi64 .. | .setPs .. | .setPd .. | .setFromU32Pi32 .. | .setFromU64Pi64 ..
  | .setFromU32Ps .. | .setFromU64Pd .. | .setMaskPi32 .. | .setMaskPi64 .. | .setMaskPs .. | .setMaskPd .. => true
  | .getPi32 _ _ imm8 => laneIndexOk 4 imm8
  | .getPi64 _ _ imm8 => laneIndexOk 2 imm8
  | .getPs _ _ imm8 => laneIndexOk 4 imm8
  | .getPd _ _ imm8 => laneIndexOk 2 imm8
  | .setlanePi32 _ _ _ imm8 => laneIndexOk 4 imm8
  | .setlanePi64 _ _ _ imm8 => laneIndexOk 2 imm8
  | .setlanePs _ _ _ imm8 => laneIndexOk 4 imm8
  | .setlanePd _ _ _ imm8 => laneIndexOk 2 imm8
  | .loadUnalignedPi32 .. | .loadUnalignedPi64 .. | .loadUnalignedPs .. | .loadUnalignedPd ..
  | .storeUnalignedPi32 .. | .storeUnalignedPi64 .. | .storeUnalignedPs .. | .storeUnalignedPd .. | .debugEqPi32 ..
  | .debugEqPi64 .. | .debugEqPs .. | .debugEqPd .. | .bitcastPi32Pi64 .. | .bitcastPi32Ps .. | .bitcastPi32Pd ..
  | .bitcastPi64Pi32 .. | .bitcastPi64Ps .. | .bitcastPi64Pd .. | .bitcastPsPi32 .. | .bitcastPsPi64 ..
  | .bitcastPsPd .. | .bitcastPdPi32 .. | .bitcastPdPi64 .. | .bitcastPdPs .. | .bitcastCmpPi32Pi64 ..
  | .bitcastCmpPi32Ps .. | .bitcastCmpPi32Pd .. | .bitcastCmpPi64Pi32 .. | .bitcastCmpPi64Ps ..
  | .bitcastCmpPi64Pd .. | .bitcastCmpPsPi32 .. | .bitcastCmpPsPi64 .. | .bitcastCmpPsPd .. | .bitcastCmpPdPi32 ..
  | .bitcastCmpPdPi64 .. | .bitcastCmpPdPs .. | .sbitcastU32I32 .. | .sbitcastU32F32 .. | .sbitcastI32U32 ..
  | .sbitcastI32F32 .. | .sbitcastF32U32 .. | .sbitcastF32I32 .. | .sbitcastU64I64 .. | .sbitcastU64F64 ..
  | .sbitcastI64U64 .. | .sbitcastI64F64 .. | .sbitcastF64U64 .. | .sbitcastF64I64 .. | .shufflePi32 .. => true
  | .shufflePi64 _ _ imm8 => selector2Ok imm8
  | .shufflePs .. => true
  | .shufflePd _ _ imm8 => selector2Ok imm8
  | .addPi32 .. | .addPi64 .. | .addPs .. | .addPd .. | .subPi32 .. | .subPi64 .. | .subPs .. | .subPd ..
  | .mulPi32 .. | .mulPi64 .. | .mulPs .. | .mulPd .. | .divPi32 .. | .divPi64 .. | .divPs .. | .divPd ..
  | .mulAddPs .. | .mulAddPd .. | .safedivPi32 .. | .safedivPi64 .. | .safedivPs .. | .safedivPd .. | .negPi32 ..
  | .negPi64 .. | .negPs .. | .negPd .. | .absPi32 .. | .absPi64 .. | .absPs .. | .absPd .. | .andPi32 ..
  | .andPi64 .. | .andPs .. | .andPd .. | .andnotPi32 .. | .andnotPi64 .. | .andnotPs .. | .andnotPd .. | .orPi32 ..
  | .orPi64 .. | .orPs .. | .orPd .. | .xorPi32 .. | .xorPi64 .. | .xorPs .. | .xorPd .. | .notPi32 .. | .notPi64 ..
  | .notPs .. | .notPd .. => true
  | .slImmPi32 _ _ imm8 => shiftCountOk 32 imm8
  | .slImmPi64 _ _ imm8 => shiftCountOk 64 imm8
  | .srlImmPi32 _ _ imm8 => shiftCountOk 32 imm8
  | .srlImmPi64 _ _ imm8 => shiftCountOk 64 imm8
  | .sraImmPi32 _ _ imm8 => shiftCountOk 32 imm8
  | .sraImmPi64 _ _ imm8 => shiftCountOk 64 imm8
  | .slPi32 .. | .slPi64 .. | .srlPi32 .. | .srlPi64 .. | .sraPi32 .. | .sraPi64 .. | .cmpltPi32 .. | .cmpltPi64 ..
  | .cmpltPs .. | .cmpltPd .. | .cmplePi32 .. | .cmplePi64 .. | .cmplePs .. | .cmplePd .. | .cmpeqPi32 ..
  | .cmpeqPi64 .. | .cmpeqPs .. | .cmpeqPd .. | .cmpneqPi32 .. | .cmpneqPi64 .. | .cmpneqPs .. | .cmpneqPd ..
  | .cmpgePi32 .. | .cmpgePi64 .. | .cmpgePs .. | .cmpgePd .. | .cmpgtPi32 .. | .cmpgtPi64 .. | .cmpgtPs ..
  | .cmpgtPd .. | .andCmpPi32 .. | .andCmpPi64 .. | .andCmpPs .. | .andCmpPd .. | .orCmpPi32 .. | .orCmpPi64 ..
  | .orCmpPs .. | .orCmpPd .. | .xorCmpPi32 .. | .xorCmpPi64 .. | .xorCmpPs .. | .xorCmpPd .. | .cmpeqCmpPi32 ..
  | .cmpeqCmpPi64 .. | .cmpeqCmpPs .. | .cmpeqCmpPd .. | .notCmpPi32 .. | .notCmpPi64 .. | .notCmpPs ..
  | .notCmpPd .. | .cvtcmpPi32Pi64 .. | .cvtcmpPi32Ps .. | .cvtcmpPi32Pd .. | .cvtcmpPi64Pi32 .. | .cvtcmpPi64Ps ..
  | .cvtcmpPi64Pd .. | .cvtcmpPsPi32 .. | .cvtcmpPsPi64 .. | .cvtcmpPsPd .. | .cvtcmpPdPi32 .. | .cvtcmpPdPi64 ..
  | .cvtcmpPdPs .. | .andnotCmpPi32 .. | .andnotCmpPi64 .. | .andnotCmpPs .. | .andnotCmpPd .. | .choosePi32 ..
  | .choosePi64 .. | .choosePs .. | .choosePd .. | .chooseElseZeroPi32 .. | .chooseElseZeroPi64 ..
  | .chooseElseZeroPs .. | .chooseElseZeroPd .. | .minPi32 .. | .minPi64 .. | .maxPi32 .. | .maxPi64 ..
  | .minFastPs .. | .minFastPd .. | .maxFastPs .. | .maxFastPd .. | .constrainPi32 .. | .constrainPi64 ..
  | .constrainPs .. | .constrainPd .. | .removeSignedZeroPs .. | .removeSignedZeroPd .. | .cvtPi32Pi64 ..
  | .cvtPi32Ps .. | .cvtPi32Pd .. | .cvtPi64Pi32 .. | .cvtPi64Ps .. | .cvtPi64Pd .. | .cvtPsPi32 .. | .cvtPsPi64 ..
  | .cvtPsPd .. | .cvtPdPi32 .. | .cvtPdPi64 .. | .cvtPdPs .. | .cvttPsPi32 .. | .cvttPsPi64 .. | .cvttPdPi32 ..
  | .cvttPdPi64 .. | .cvtfPsPi32 .. | .cvtfPsPi64 .. | .cvtfPdPi32 .. | .cvtfPdPi64 .. | .halt .. => true

/-- `i` is well formed, as a proposition that `decide` runs on. -/
abbrev Instr.WellFormed (i : Instr) : Prop := i.wellFormed = true

end Sys2Proof
end

