-- ==== Sys2Proof/Decode.lean ====
section
/-!
DEFINITION. Decoding and encoding (30_encoding.md). `decode` is total on every 32-bit word and refuses an illegal word by
the case of R66 it falls under; `encode` writes the word of an instruction from the same fields (R61, R65).
-/

namespace Sys2Proof

/-! ### The fields of the instruction word -/

/-- The word `OP K K2 rd ra rb lo8` (R61, R65): the fields from the most significant down; `lo8` is `imm8`, or `rc`
and `re`. -/
def wordOf (op : BitVec 8) (k k2 : BitVec 2) (rd ra rb : Fin 16) (lo8 : Byte) : Word :=
  op ++ k ++ k2 ++ BitVec.ofFin (w := 4) rd ++ BitVec.ofFin (w := 4) ra ++ BitVec.ofFin (w := 4) rb ++ lo8

/-- The low byte of a word whose format has the register fields `rc` (bits 7:4) and `re` (bits 3:0) (R61). -/
def regPair (rc re : Fin 16) : Byte := BitVec.ofFin (w := 4) rc ++ BitVec.ofFin (w := 4) re

/-- The fields every word has (R61). -/
structure Fields where
  op : Nat
  k : Nat
  k2 : Nat
  rd : Fin 16
  ra : Fin 16
  rb : Fin 16
  rc : Fin 16
  re : Fin 16
  imm8 : Byte
  deriving DecidableEq, Repr

/-- The fields of a word, by their bit ranges (R61). -/
def fieldsOf (w : Word) : Fields where
  op := (w.extractLsb' 24 8).toNat
  k := (w.extractLsb' 22 2).toNat
  k2 := (w.extractLsb' 20 2).toNat
  rd := (w.extractLsb' 16 4).toFin
  ra := (w.extractLsb' 12 4).toFin
  rb := (w.extractLsb' 8 4).toFin
  rc := (w.extractLsb' 4 4).toFin
  re := (w.extractLsb' 0 4).toFin
  imm8 := w.extractLsb' 0 8

/-! ### Decoding -/

/-- Why a word is illegal: the four cases of R66. -/
inductive IllegalCase where
  /-- Case 1: `OP` is unassigned. -/
  | opcode
  /-- Case 2: the operation does not admit `K`, or the pair `K`, `K2`. -/
  | kind
  /-- Case 3: a bit of a field the format does not use is set. -/
  | unusedField
  /-- Case 4: `imm8` is outside its legal range (R64). -/
  | immediate
  deriving DecidableEq, Repr

/-- What decoding answers. -/
abbrev Decoded := Except IllegalCase Instr

/-- The row of a kind the operation does not admit (R66 case 2). -/
def noKind : Decoded := .error .kind

/-- A one-kind operation: `K2` is zero and `K` selects the row (R61, R63). -/
def byKind (f : Fields) (pi32 pi64 ps pd : Decoded) : Decoded :=
  if f.k2 ≠ 0 then noKind
  else match f.k with
    | 0 => pi32
    | 1 => pi64
    | 2 => ps
    | _ => pd

/-- A two-kind operation: `K` is the source kind and `K2` the result kind; each argument holds the rows of one source
kind as a function of `K2` (R63). -/
def byPair (f : Fields) (pi32 pi64 ps pd : Nat → Decoded) : Decoded :=
  match f.k with
  | 0 => pi32 f.k2
  | 1 => pi64 f.k2
  | 2 => ps f.k2
  | _ => pd f.k2

/-- The three or fewer rows of one source kind, by result kind. -/
def toKind (pi32 pi64 ps pd : Decoded) (k2 : Nat) : Decoded :=
  match k2 with
  | 0 => pi32
  | 1 => pi64
  | 2 => ps
  | _ => pd

/-- `i`, if every unused field is zero (R66 case 3). -/
def ifUnused (unusedAreZero : Bool) (i : Instr) : Decoded :=
  if unusedAreZero then .ok i else .error .unusedField

/-- `i`, if every unused field is zero (R66 case 3) and then if `imm8` is in its range (R66 case 4). -/
def ifImm (unusedAreZero inRange : Bool) (i : Instr) : Decoded :=
  if unusedAreZero then (if inRange then .ok i else .error .immediate) else .error .unusedField

/-! The formats of R62. Each reads its operands from the fields it uses and checks that the others are zero. -/

def fmtZ (f : Fields) (c : Instr) : Decoded :=
  ifUnused (f.rd = 0 && f.ra = 0 && f.rb = 0 && f.imm8 = 0) c

def fmtV0 (f : Fields) (c : VReg → Instr) : Decoded :=
  ifUnused (f.ra = 0 && f.rb = 0 && f.imm8 = 0) (c f.rd)

/-- Formats `VS1`, `VV` and, its type pair already matched, `SS`: two registers. -/
def fmtRR (f : Fields) (c : Fin 16 → Fin 16 → Instr) : Decoded :=
  ifUnused (f.rb = 0 && f.imm8 = 0) (c f.rd f.ra)

/-- Formats `VS2`, `SVV` and `VVV`: three registers. -/
def fmtRRR (f : Fields) (c : Fin 16 → Fin 16 → Fin 16 → Instr) : Decoded :=
  ifUnused (f.imm8 = 0) (c f.rd f.ra f.rb)

def fmtVVVV (f : Fields) (c : VReg → VReg → VReg → VReg → Instr) : Decoded :=
  ifUnused (f.re = 0) (c f.rd f.ra f.rb f.rc)

def fmtVS4 (f : Fields) (c : VReg → SReg → SReg → SReg → SReg → Instr) : Decoded :=
  .ok (c f.rd f.ra f.rb f.rc f.re)

/-- Formats `SVI`, `LD` and `VVI`: two registers and `imm8`. -/
def fmtRRI (f : Fields) (inRange : Byte → Bool) (c : Fin 16 → Fin 16 → Byte → Instr) : Decoded :=
  ifImm (f.rb = 0) (inRange f.imm8) (c f.rd f.ra f.imm8)

def fmtVVSI (f : Fields) (inRange : Byte → Bool) (c : VReg → VReg → SReg → Byte → Instr) : Decoded :=
  ifImm true (inRange f.imm8) (c f.rd f.ra f.rb f.imm8)

def fmtST (f : Fields) (c : VReg → SReg → Byte → Instr) : Decoded :=
  ifUnused (f.rd = 0) (c f.rb f.ra f.imm8)

/-- Any value of `imm8` (R64: loads, stores and 4-lane shuffles). -/
def anyImm (_ : Byte) : Bool := true

/-- `sbitcast`: `K` = `K2` = 0, the type pair in `imm8` (R64, R133), `rb` unused. -/
def fmtSS (f : Fields) : Decoded :=
  if f.k ≠ 0 ∨ f.k2 ≠ 0 then noKind
  else if f.rb ≠ 0 then .error .unusedField
  else match f.imm8.toNat with
    | 0x01 => .ok (.sbitcastU32I32 f.rd f.ra)
    | 0x02 => .ok (.sbitcastU32F32 f.rd f.ra)
    | 0x10 => .ok (.sbitcastI32U32 f.rd f.ra)
    | 0x12 => .ok (.sbitcastI32F32 f.rd f.ra)
    | 0x20 => .ok (.sbitcastF32U32 f.rd f.ra)
    | 0x21 => .ok (.sbitcastF32I32 f.rd f.ra)
    | 0x45 => .ok (.sbitcastU64I64 f.rd f.ra)
    | 0x46 => .ok (.sbitcastU64F64 f.rd f.ra)
    | 0x54 => .ok (.sbitcastI64U64 f.rd f.ra)
    | 0x56 => .ok (.sbitcastI64F64 f.rd f.ra)
    | 0x64 => .ok (.sbitcastF64U64 f.rd f.ra)
    | 0x65 => .ok (.sbitcastF64I64 f.rd f.ra)
    | _ => .error .immediate

/-- Decoding a word (R60): the row of R65 it matches, with its operands, or the case of R66 that makes it illegal. -/
def decode (w : Word) : Decoded :=
  let f := fieldsOf w
  match f.op with
  | 0x10 => byKind f (fmtV0 f .setzeroPi32) (fmtV0 f .setzeroPi64) (fmtV0 f .setzeroPs) (fmtV0 f .setzeroPd)
  | 0x11 => byKind f (fmtRR f .set1Pi32) (fmtRR f .set1Pi64) (fmtRR f .set1Ps) (fmtRR f .set1Pd)
  | 0x12 => byKind f (fmtVS4 f .setPi32) (fmtRRR f .setPi64) (fmtVS4 f .setPs) (fmtRRR f .setPd)
  | 0x13 => byKind f
      (fmtVS4 f .setFromU32Pi32) (fmtRRR f .setFromU64Pi64) (fmtVS4 f .setFromU32Ps) (fmtRRR f .setFromU64Pd)
  | 0x14 => byKind f (fmtVS4 f .setMaskPi32) (fmtRRR f .setMaskPi64) (fmtVS4 f .setMaskPs) (fmtRRR f .setMaskPd)
  | 0x15 => byKind f
      (fmtRRI f (laneIndexOk 4) .getPi32) (fmtRRI f (laneIndexOk 2) .getPi64) (fmtRRI f (laneIndexOk 4) .getPs)
      (fmtRRI f (laneIndexOk 2) .getPd)
  | 0x16 => byKind f
      (fmtVVSI f (laneIndexOk 4) .setlanePi32) (fmtVVSI f (laneIndexOk 2) .setlanePi64)
      (fmtVVSI f (laneIndexOk 4) .setlanePs) (fmtVVSI f (laneIndexOk 2) .setlanePd)
  | 0x17 => byKind f
      (fmtRRI f anyImm .loadUnalignedPi32) (fmtRRI f anyImm .loadUnalignedPi64) (fmtRRI f anyImm .loadUnalignedPs)
      (fmtRRI f anyImm .loadUnalignedPd)
  | 0x18 => byKind f
      (fmtST f .storeUnalignedPi32) (fmtST f .storeUnalignedPi64) (fmtST f .storeUnalignedPs)
      (fmtST f .storeUnalignedPd)
  | 0x19 => byKind f (fmtRRR f .debugEqPi32) (fmtRRR f .debugEqPi64) (fmtRRR f .debugEqPs) (fmtRRR f .debugEqPd)
  | 0x20 => byPair f
      (toKind noKind (fmtRR f .bitcastPi32Pi64) (fmtRR f .bitcastPi32Ps) (fmtRR f .bitcastPi32Pd))
      (toKind (fmtRR f .bitcastPi64Pi32) noKind (fmtRR f .bitcastPi64Ps) (fmtRR f .bitcastPi64Pd))
      (toKind (fmtRR f .bitcastPsPi32) (fmtRR f .bitcastPsPi64) noKind (fmtRR f .bitcastPsPd))
      (toKind (fmtRR f .bitcastPdPi32) (fmtRR f .bitcastPdPi64) (fmtRR f .bitcastPdPs) noKind)
  | 0x21 => byPair f
      (toKind noKind (fmtRR f .bitcastCmpPi32Pi64) (fmtRR f .bitcastCmpPi32Ps) (fmtRR f .bitcastCmpPi32Pd))
      (toKind (fmtRR f .bitcastCmpPi64Pi32) noKind (fmtRR f .bitcastCmpPi64Ps) (fmtRR f .bitcastCmpPi64Pd))
      (toKind (fmtRR f .bitcastCmpPsPi32) (fmtRR f .bitcastCmpPsPi64) noKind (fmtRR f .bitcastCmpPsPd))
      (toKind (fmtRR f .bitcastCmpPdPi32) (fmtRR f .bitcastCmpPdPi64) (fmtRR f .bitcastCmpPdPs) noKind)
  | 0x22 => fmtSS f
  | 0x30 => byKind f
      (fmtRRI f anyImm .shufflePi32) (fmtRRI f selector2Ok .shufflePi64) (fmtRRI f anyImm .shufflePs)
      (fmtRRI f selector2Ok .shufflePd)
  | 0x40 => byKind f (fmtRRR f .addPi32) (fmtRRR f .addPi64) (fmtRRR f .addPs) (fmtRRR f .addPd)
  | 0x41 => byKind f (fmtRRR f .subPi32) (fmtRRR f .subPi64) (fmtRRR f .subPs) (fmtRRR f .subPd)
  | 0x42 => byKind f (fmtRRR f .mulPi32) (fmtRRR f .mulPi64) (fmtRRR f .mulPs) (fmtRRR f .mulPd)
  | 0x43 => byKind f (fmtRRR f .divPi32) (fmtRRR f .divPi64) (fmtRRR f .divPs) (fmtRRR f .divPd)
  | 0x44 => byKind f noKind noKind (fmtVVVV f .mulAddPs) (fmtVVVV f .mulAddPd)
  | 0x45 => byKind f (fmtRRR f .safedivPi32) (fmtRRR f .safedivPi64) (fmtRRR f .safedivPs) (fmtRRR f .safedivPd)
  | 0x46 => byKind f (fmtRR f .negPi32) (fmtRR f .negPi64) (fmtRR f .negPs) (fmtRR f .negPd)
  | 0x47 => byKind f (fmtRR f .absPi32) (fmtRR f .absPi64) (fmtRR f .absPs) (fmtRR f .absPd)
  | 0x50 => byKind f (fmtRRR f .andPi32) (fmtRRR f .andPi64) (fmtRRR f .andPs) (fmtRRR f .andPd)
  | 0x51 => byKind f (fmtRRR f .andnotPi32) (fmtRRR f .andnotPi64) (fmtRRR f .andnotPs) (fmtRRR f .andnotPd)
  | 0x52 => byKind f (fmtRRR f .orPi32) (fmtRRR f .orPi64) (fmtRRR f .orPs) (fmtRRR f .orPd)
  | 0x53 => byKind f (fmtRRR f .xorPi32) (fmtRRR f .xorPi64) (fmtRRR f .xorPs) (fmtRRR f .xorPd)
  | 0x54 => byKind f (fmtRR f .notPi32) (fmtRR f .notPi64) (fmtRR f .notPs) (fmtRR f .notPd)
  | 0x60 => byKind f (fmtRRI f (shiftCountOk 32) .slImmPi32) (fmtRRI f (shiftCountOk 64) .slImmPi64) noKind noKind
  | 0x61 => byKind f (fmtRRI f (shiftCountOk 32) .srlImmPi32) (fmtRRI f (shiftCountOk 64) .srlImmPi64) noKind noKind
  | 0x62 => byKind f (fmtRRI f (shiftCountOk 32) .sraImmPi32) (fmtRRI f (shiftCountOk 64) .sraImmPi64) noKind noKind
  | 0x63 => byKind f (fmtRRR f .slPi32) (fmtRRR f .slPi64) noKind noKind
  | 0x64 => byKind f (fmtRRR f .srlPi32) (fmtRRR f .srlPi64) noKind noKind
  | 0x65 => byKind f (fmtRRR f .sraPi32) (fmtRRR f .sraPi64) noKind noKind
  | 0x70 => byKind f (fmtRRR f .cmpltPi32) (fmtRRR f .cmpltPi64) (fmtRRR f .cmpltPs) (fmtRRR f .cmpltPd)
  | 0x71 => byKind f (fmtRRR f .cmplePi32) (fmtRRR f .cmplePi64) (fmtRRR f .cmplePs) (fmtRRR f .cmplePd)
  | 0x72 => byKind f (fmtRRR f .cmpeqPi32) (fmtRRR f .cmpeqPi64) (fmtRRR f .cmpeqPs) (fmtRRR f .cmpeqPd)
  | 0x73 => byKind f (fmtRRR f .cmpneqPi32) (fmtRRR f .cmpneqPi64) (fmtRRR f .cmpneqPs) (fmtRRR f .cmpneqPd)
  | 0x74 => byKind f (fmtRRR f .cmpgePi32) (fmtRRR f .cmpgePi64) (fmtRRR f .cmpgePs) (fmtRRR f .cmpgePd)
  | 0x75 => byKind f (fmtRRR f .cmpgtPi32) (fmtRRR f .cmpgtPi64) (fmtRRR f .cmpgtPs) (fmtRRR f .cmpgtPd)
  | 0x78 => byKind f (fmtRRR f .andCmpPi32) (fmtRRR f .andCmpPi64) (fmtRRR f .andCmpPs) (fmtRRR f .andCmpPd)
  | 0x79 => byKind f (fmtRRR f .orCmpPi32) (fmtRRR f .orCmpPi64) (fmtRRR f .orCmpPs) (fmtRRR f .orCmpPd)
  | 0x7A => byKind f (fmtRRR f .xorCmpPi32) (fmtRRR f .xorCmpPi64) (fmtRRR f .xorCmpPs) (fmtRRR f .xorCmpPd)
  | 0x7B => byKind f (fmtRRR f .cmpeqCmpPi32) (fmtRRR f .cmpeqCmpPi64) (fmtRRR f .cmpeqCmpPs) (fmtRRR f .cmpeqCmpPd)
  | 0x7C => byKind f (fmtRR f .notCmpPi32) (fmtRR f .notCmpPi64) (fmtRR f .notCmpPs) (fmtRR f .notCmpPd)
  | 0x7D => byPair f
      (toKind noKind (fmtRR f .cvtcmpPi32Pi64) (fmtRR f .cvtcmpPi32Ps) (fmtRR f .cvtcmpPi32Pd))
      (toKind (fmtRR f .cvtcmpPi64Pi32) noKind (fmtRR f .cvtcmpPi64Ps) (fmtRR f .cvtcmpPi64Pd))
      (toKind (fmtRR f .cvtcmpPsPi32) (fmtRR f .cvtcmpPsPi64) noKind (fmtRR f .cvtcmpPsPd))
      (toKind (fmtRR f .cvtcmpPdPi32) (fmtRR f .cvtcmpPdPi64) (fmtRR f .cvtcmpPdPs) noKind)
  | 0x7E => byKind f
      (fmtRRR f .andnotCmpPi32) (fmtRRR f .andnotCmpPi64) (fmtRRR f .andnotCmpPs) (fmtRRR f .andnotCmpPd)
  | 0x80 => byKind f (fmtVVVV f .choosePi32) (fmtVVVV f .choosePi64) (fmtVVVV f .choosePs) (fmtVVVV f .choosePd)
  | 0x81 => byKind f
      (fmtRRR f .chooseElseZeroPi32) (fmtRRR f .chooseElseZeroPi64) (fmtRRR f .chooseElseZeroPs)
      (fmtRRR f .chooseElseZeroPd)
  | 0x90 => byKind f (fmtRRR f .minPi32) (fmtRRR f .minPi64) noKind noKind
  | 0x91 => byKind f (fmtRRR f .maxPi32) (fmtRRR f .maxPi64) noKind noKind
  | 0x92 => byKind f noKind noKind (fmtRRR f .minFastPs) (fmtRRR f .minFastPd)
  | 0x93 => byKind f noKind noKind (fmtRRR f .maxFastPs) (fmtRRR f .maxFastPd)
  | 0x94 => byKind f
      (fmtVVVV f .constrainPi32) (fmtVVVV f .constrainPi64) (fmtVVVV f .constrainPs) (fmtVVVV f .constrainPd)
  | 0x95 => byKind f noKind noKind (fmtRR f .removeSignedZeroPs) (fmtRR f .removeSignedZeroPd)
  | 0xA0 => byPair f
      (toKind noKind (fmtRR f .cvtPi32Pi64) (fmtRR f .cvtPi32Ps) (fmtRR f .cvtPi32Pd))
      (toKind (fmtRR f .cvtPi64Pi32) noKind (fmtRR f .cvtPi64Ps) (fmtRR f .cvtPi64Pd))
      (toKind (fmtRR f .cvtPsPi32) (fmtRR f .cvtPsPi64) noKind (fmtRR f .cvtPsPd))
      (toKind (fmtRR f .cvtPdPi32) (fmtRR f .cvtPdPi64) (fmtRR f .cvtPdPs) noKind)
  | 0xA1 => byPair f
      (toKind noKind noKind noKind noKind)
      (toKind noKind noKind noKind noKind)
      (toKind (fmtRR f .cvttPsPi32) (fmtRR f .cvttPsPi64) noKind noKind)
      (toKind (fmtRR f .cvttPdPi32) (fmtRR f .cvttPdPi64) noKind noKind)
  | 0xA2 => byPair f
      (toKind noKind noKind noKind noKind)
      (toKind noKind noKind noKind noKind)
      (toKind (fmtRR f .cvtfPsPi32) (fmtRR f .cvtfPsPi64) noKind noKind)
      (toKind (fmtRR f .cvtfPdPi32) (fmtRR f .cvtfPdPi64) noKind noKind)
  | 0x01 => byKind f (fmtZ f .halt) noKind noKind noKind
  | _ => .error .opcode

/-! ### Bytes -/

/-- The number whose bytes, least significant first, are `bs`: memory is little-endian (R43, R45). -/
def natOfBytes : List Byte → Nat
  | [] => 0
  | b :: bs => b.toNat + 256 * natOfBytes bs

/-- Byte `j` of a value, bits 8j+7 : 8j (R45). -/
def byteOf {w : Nat} (x : BitVec w) (j : Nat) : Byte := x.extractLsb' (8 * j) 8

/-- The instruction word at the four bytes of memory `bs`, lowest address first (R43). -/
def wordOfBytes (bs : List Byte) : Word := BitVec.ofNat 32 (natOfBytes bs)

/-- The bytes of an instruction word, lowest address first (R43). -/
def bytesOfWord (w : Word) : List Byte := (List.range 4).map (byteOf w)

/-- Decoding the four bytes of an instruction (R43, R60). -/
def decodeBytes (bs : List Byte) : Decoded := decode (wordOfBytes bs)

/-- The table's word `w` of `nbits` bits, bits above `nbits` zero, as the bytes memory holds. -/
def tableBytes (nbits w : Nat) : List Byte := bytesOfWord (BitVec.ofNat 32 (w % 2 ^ nbits))

/-- The instruction the decoder reads from a word numbered as spec/opcode_table.json numbers it. -/
def decodeTableWord (nbits w : Nat) : Option Instr :=
  match decodeBytes (tableBytes nbits w) with
  | .ok i => some i
  | .error _ => none

/-! ### Encoding -/

/-- The word of an instruction (R61, R65). -/
def encode : Instr → Word
  | .setzeroPi32 rd => wordOf 0x10 0 0 rd 0 0 0
  | .setzeroPi64 rd => wordOf 0x10 1 0 rd 0 0 0
  | .setzeroPs rd => wordOf 0x10 2 0 rd 0 0 0
  | .setzeroPd rd => wordOf 0x10 3 0 rd 0 0 0
  | .set1Pi32 rd ra => wordOf 0x11 0 0 rd ra 0 0
  | .set1Pi64 rd ra => wordOf 0x11 1 0 rd ra 0 0
  | .set1Ps rd ra => wordOf 0x11 2 0 rd ra 0 0
  | .set1Pd rd ra => wordOf 0x11 3 0 rd ra 0 0
  | .setPi32 rd ra rb rc re => wordOf 0x12 0 0 rd ra rb (regPair rc re)
  | .setPi64 rd ra rb => wordOf 0x12 1 0 rd ra rb 0
  | .setPs rd ra rb rc re => wordOf 0x12 2 0 rd ra rb (regPair rc re)
  | .setPd rd ra rb => wordOf 0x12 3 0 rd ra rb 0
  | .setFromU32Pi32 rd ra rb rc re => wordOf 0x13 0 0 rd ra rb (regPair rc re)
  | .setFromU64Pi64 rd ra rb => wordOf 0x13 1 0 rd ra rb 0
  | .setFromU32Ps rd ra rb rc re => wordOf 0x13 2 0 rd ra rb (regPair rc re)
  | .setFromU64Pd rd ra rb => wordOf 0x13 3 0 rd ra rb 0
  | .setMaskPi32 rd ra rb rc re => wordOf 0x14 0 0 rd ra rb (regPair rc re)
  | .setMaskPi64 rd ra rb => wordOf 0x14 1 0 rd ra rb 0
  | .setMaskPs rd ra rb rc re => wordOf 0x14 2 0 rd ra rb (regPair rc re)
  | .setMaskPd rd ra rb => wordOf 0x14 3 0 rd ra rb 0
  | .getPi32 rd ra imm8 => wordOf 0x15 0 0 rd ra 0 imm8
  | .getPi64 rd ra imm8 => wordOf 0x15 1 0 rd ra 0 imm8
  | .getPs rd ra imm8 => wordOf 0x15 2 0 rd ra 0 imm8
  | .getPd rd ra imm8 => wordOf 0x15 3 0 rd ra 0 imm8
  | .setlanePi32 rd ra rb imm8 => wordOf 0x16 0 0 rd ra rb imm8
  | .setlanePi64 rd ra rb imm8 => wordOf 0x16 1 0 rd ra rb imm8
  | .setlanePs rd ra rb imm8 => wordOf 0x16 2 0 rd ra rb imm8
  | .setlanePd rd ra rb imm8 => wordOf 0x16 3 0 rd ra rb imm8
  | .loadUnalignedPi32 rd ra imm8 => wordOf 0x17 0 0 rd ra 0 imm8
  | .loadUnalignedPi64 rd ra imm8 => wordOf 0x17 1 0 rd ra 0 imm8
  | .loadUnalignedPs rd ra imm8 => wordOf 0x17 2 0 rd ra 0 imm8
  | .loadUnalignedPd rd ra imm8 => wordOf 0x17 3 0 rd ra 0 imm8
  | .storeUnalignedPi32 rb ra imm8 => wordOf 0x18 0 0 0 ra rb imm8
  | .storeUnalignedPi64 rb ra imm8 => wordOf 0x18 1 0 0 ra rb imm8
  | .storeUnalignedPs rb ra imm8 => wordOf 0x18 2 0 0 ra rb imm8
  | .storeUnalignedPd rb ra imm8 => wordOf 0x18 3 0 0 ra rb imm8
  | .debugEqPi32 rd ra rb => wordOf 0x19 0 0 rd ra rb 0
  | .debugEqPi64 rd ra rb => wordOf 0x19 1 0 rd ra rb 0
  | .debugEqPs rd ra rb => wordOf 0x19 2 0 rd ra rb 0
  | .debugEqPd rd ra rb => wordOf 0x19 3 0 rd ra rb 0
  | .bitcastPi32Pi64 rd ra => wordOf 0x20 0 1 rd ra 0 0
  | .bitcastPi32Ps rd ra => wordOf 0x20 0 2 rd ra 0 0
  | .bitcastPi32Pd rd ra => wordOf 0x20 0 3 rd ra 0 0
  | .bitcastPi64Pi32 rd ra => wordOf 0x20 1 0 rd ra 0 0
  | .bitcastPi64Ps rd ra => wordOf 0x20 1 2 rd ra 0 0
  | .bitcastPi64Pd rd ra => wordOf 0x20 1 3 rd ra 0 0
  | .bitcastPsPi32 rd ra => wordOf 0x20 2 0 rd ra 0 0
  | .bitcastPsPi64 rd ra => wordOf 0x20 2 1 rd ra 0 0
  | .bitcastPsPd rd ra => wordOf 0x20 2 3 rd ra 0 0
  | .bitcastPdPi32 rd ra => wordOf 0x20 3 0 rd ra 0 0
  | .bitcastPdPi64 rd ra => wordOf 0x20 3 1 rd ra 0 0
  | .bitcastPdPs rd ra => wordOf 0x20 3 2 rd ra 0 0
  | .bitcastCmpPi32Pi64 rd ra => wordOf 0x21 0 1 rd ra 0 0
  | .bitcastCmpPi32Ps rd ra => wordOf 0x21 0 2 rd ra 0 0
  | .bitcastCmpPi32Pd rd ra => wordOf 0x21 0 3 rd ra 0 0
  | .bitcastCmpPi64Pi32 rd ra => wordOf 0x21 1 0 rd ra 0 0
  | .bitcastCmpPi64Ps rd ra => wordOf 0x21 1 2 rd ra 0 0
  | .bitcastCmpPi64Pd rd ra => wordOf 0x21 1 3 rd ra 0 0
  | .bitcastCmpPsPi32 rd ra => wordOf 0x21 2 0 rd ra 0 0
  | .bitcastCmpPsPi64 rd ra => wordOf 0x21 2 1 rd ra 0 0
  | .bitcastCmpPsPd rd ra => wordOf 0x21 2 3 rd ra 0 0
  | .bitcastCmpPdPi32 rd ra => wordOf 0x21 3 0 rd ra 0 0
  | .bitcastCmpPdPi64 rd ra => wordOf 0x21 3 1 rd ra 0 0
  | .bitcastCmpPdPs rd ra => wordOf 0x21 3 2 rd ra 0 0
  | .sbitcastU32I32 rd ra => wordOf 0x22 0 0 rd ra 0 0x01
  | .sbitcastU32F32 rd ra => wordOf 0x22 0 0 rd ra 0 0x02
  | .sbitcastI32U32 rd ra => wordOf 0x22 0 0 rd ra 0 0x10
  | .sbitcastI32F32 rd ra => wordOf 0x22 0 0 rd ra 0 0x12
  | .sbitcastF32U32 rd ra => wordOf 0x22 0 0 rd ra 0 0x20
  | .sbitcastF32I32 rd ra => wordOf 0x22 0 0 rd ra 0 0x21
  | .sbitcastU64I64 rd ra => wordOf 0x22 0 0 rd ra 0 0x45
  | .sbitcastU64F64 rd ra => wordOf 0x22 0 0 rd ra 0 0x46
  | .sbitcastI64U64 rd ra => wordOf 0x22 0 0 rd ra 0 0x54
  | .sbitcastI64F64 rd ra => wordOf 0x22 0 0 rd ra 0 0x56
  | .sbitcastF64U64 rd ra => wordOf 0x22 0 0 rd ra 0 0x64
  | .sbitcastF64I64 rd ra => wordOf 0x22 0 0 rd ra 0 0x65
  | .shufflePi32 rd ra imm8 => wordOf 0x30 0 0 rd ra 0 imm8
  | .shufflePi64 rd ra imm8 => wordOf 0x30 1 0 rd ra 0 imm8
  | .shufflePs rd ra imm8 => wordOf 0x30 2 0 rd ra 0 imm8
  | .shufflePd rd ra imm8 => wordOf 0x30 3 0 rd ra 0 imm8
  | .addPi32 rd ra rb => wordOf 0x40 0 0 rd ra rb 0
  | .addPi64 rd ra rb => wordOf 0x40 1 0 rd ra rb 0
  | .addPs rd ra rb => wordOf 0x40 2 0 rd ra rb 0
  | .addPd rd ra rb => wordOf 0x40 3 0 rd ra rb 0
  | .subPi32 rd ra rb => wordOf 0x41 0 0 rd ra rb 0
  | .subPi64 rd ra rb => wordOf 0x41 1 0 rd ra rb 0
  | .subPs rd ra rb => wordOf 0x41 2 0 rd ra rb 0
  | .subPd rd ra rb => wordOf 0x41 3 0 rd ra rb 0
  | .mulPi32 rd ra rb => wordOf 0x42 0 0 rd ra rb 0
  | .mulPi64 rd ra rb => wordOf 0x42 1 0 rd ra rb 0
  | .mulPs rd ra rb => wordOf 0x42 2 0 rd ra rb 0
  | .mulPd rd ra rb => wordOf 0x42 3 0 rd ra rb 0
  | .divPi32 rd ra rb => wordOf 0x43 0 0 rd ra rb 0
  | .divPi64 rd ra rb => wordOf 0x43 1 0 rd ra rb 0
  | .divPs rd ra rb => wordOf 0x43 2 0 rd ra rb 0
  | .divPd rd ra rb => wordOf 0x43 3 0 rd ra rb 0
  | .mulAddPs rd ra rb rc => wordOf 0x44 2 0 rd ra rb (regPair rc 0)
  | .mulAddPd rd ra rb rc => wordOf 0x44 3 0 rd ra rb (regPair rc 0)
  | .safedivPi32 rd ra rb => wordOf 0x45 0 0 rd ra rb 0
  | .safedivPi64 rd ra rb => wordOf 0x45 1 0 rd ra rb 0
  | .safedivPs rd ra rb => wordOf 0x45 2 0 rd ra rb 0
  | .safedivPd rd ra rb => wordOf 0x45 3 0 rd ra rb 0
  | .negPi32 rd ra => wordOf 0x46 0 0 rd ra 0 0
  | .negPi64 rd ra => wordOf 0x46 1 0 rd ra 0 0
  | .negPs rd ra => wordOf 0x46 2 0 rd ra 0 0
  | .negPd rd ra => wordOf 0x46 3 0 rd ra 0 0
  | .absPi32 rd ra => wordOf 0x47 0 0 rd ra 0 0
  | .absPi64 rd ra => wordOf 0x47 1 0 rd ra 0 0
  | .absPs rd ra => wordOf 0x47 2 0 rd ra 0 0
  | .absPd rd ra => wordOf 0x47 3 0 rd ra 0 0
  | .andPi32 rd ra rb => wordOf 0x50 0 0 rd ra rb 0
  | .andPi64 rd ra rb => wordOf 0x50 1 0 rd ra rb 0
  | .andPs rd ra rb => wordOf 0x50 2 0 rd ra rb 0
  | .andPd rd ra rb => wordOf 0x50 3 0 rd ra rb 0
  | .andnotPi32 rd ra rb => wordOf 0x51 0 0 rd ra rb 0
  | .andnotPi64 rd ra rb => wordOf 0x51 1 0 rd ra rb 0
  | .andnotPs rd ra rb => wordOf 0x51 2 0 rd ra rb 0
  | .andnotPd rd ra rb => wordOf 0x51 3 0 rd ra rb 0
  | .orPi32 rd ra rb => wordOf 0x52 0 0 rd ra rb 0
  | .orPi64 rd ra rb => wordOf 0x52 1 0 rd ra rb 0
  | .orPs rd ra rb => wordOf 0x52 2 0 rd ra rb 0
  | .orPd rd ra rb => wordOf 0x52 3 0 rd ra rb 0
  | .xorPi32 rd ra rb => wordOf 0x53 0 0 rd ra rb 0
  | .xorPi64 rd ra rb => wordOf 0x53 1 0 rd ra rb 0
  | .xorPs rd ra rb => wordOf 0x53 2 0 rd ra rb 0
  | .xorPd rd ra rb => wordOf 0x53 3 0 rd ra rb 0
  | .notPi32 rd ra => wordOf 0x54 0 0 rd ra 0 0
  | .notPi64 rd ra => wordOf 0x54 1 0 rd ra 0 0
  | .notPs rd ra => wordOf 0x54 2 0 rd ra 0 0
  | .notPd rd ra => wordOf 0x54 3 0 rd ra 0 0
  | .slImmPi32 rd ra imm8 => wordOf 0x60 0 0 rd ra 0 imm8
  | .slImmPi64 rd ra imm8 => wordOf 0x60 1 0 rd ra 0 imm8
  | .srlImmPi32 rd ra imm8 => wordOf 0x61 0 0 rd ra 0 imm8
  | .srlImmPi64 rd ra imm8 => wordOf 0x61 1 0 rd ra 0 imm8
  | .sraImmPi32 rd ra imm8 => wordOf 0x62 0 0 rd ra 0 imm8
  | .sraImmPi64 rd ra imm8 => wordOf 0x62 1 0 rd ra 0 imm8
  | .slPi32 rd ra rb => wordOf 0x63 0 0 rd ra rb 0
  | .slPi64 rd ra rb => wordOf 0x63 1 0 rd ra rb 0
  | .srlPi32 rd ra rb => wordOf 0x64 0 0 rd ra rb 0
  | .srlPi64 rd ra rb => wordOf 0x64 1 0 rd ra rb 0
  | .sraPi32 rd ra rb => wordOf 0x65 0 0 rd ra rb 0
  | .sraPi64 rd ra rb => wordOf 0x65 1 0 rd ra rb 0
  | .cmpltPi32 rd ra rb => wordOf 0x70 0 0 rd ra rb 0
  | .cmpltPi64 rd ra rb => wordOf 0x70 1 0 rd ra rb 0
  | .cmpltPs rd ra rb => wordOf 0x70 2 0 rd ra rb 0
  | .cmpltPd rd ra rb => wordOf 0x70 3 0 rd ra rb 0
  | .cmplePi32 rd ra rb => wordOf 0x71 0 0 rd ra rb 0
  | .cmplePi64 rd ra rb => wordOf 0x71 1 0 rd ra rb 0
  | .cmplePs rd ra rb => wordOf 0x71 2 0 rd ra rb 0
  | .cmplePd rd ra rb => wordOf 0x71 3 0 rd ra rb 0
  | .cmpeqPi32 rd ra rb => wordOf 0x72 0 0 rd ra rb 0
  | .cmpeqPi64 rd ra rb => wordOf 0x72 1 0 rd ra rb 0
  | .cmpeqPs rd ra rb => wordOf 0x72 2 0 rd ra rb 0
  | .cmpeqPd rd ra rb => wordOf 0x72 3 0 rd ra rb 0
  | .cmpneqPi32 rd ra rb => wordOf 0x73 0 0 rd ra rb 0
  | .cmpneqPi64 rd ra rb => wordOf 0x73 1 0 rd ra rb 0
  | .cmpneqPs rd ra rb => wordOf 0x73 2 0 rd ra rb 0
  | .cmpneqPd rd ra rb => wordOf 0x73 3 0 rd ra rb 0
  | .cmpgePi32 rd ra rb => wordOf 0x74 0 0 rd ra rb 0
  | .cmpgePi64 rd ra rb => wordOf 0x74 1 0 rd ra rb 0
  | .cmpgePs rd ra rb => wordOf 0x74 2 0 rd ra rb 0
  | .cmpgePd rd ra rb => wordOf 0x74 3 0 rd ra rb 0
  | .cmpgtPi32 rd ra rb => wordOf 0x75 0 0 rd ra rb 0
  | .cmpgtPi64 rd ra rb => wordOf 0x75 1 0 rd ra rb 0
  | .cmpgtPs rd ra rb => wordOf 0x75 2 0 rd ra rb 0
  | .cmpgtPd rd ra rb => wordOf 0x75 3 0 rd ra rb 0
  | .andCmpPi32 rd ra rb => wordOf 0x78 0 0 rd ra rb 0
  | .andCmpPi64 rd ra rb => wordOf 0x78 1 0 rd ra rb 0
  | .andCmpPs rd ra rb => wordOf 0x78 2 0 rd ra rb 0
  | .andCmpPd rd ra rb => wordOf 0x78 3 0 rd ra rb 0
  | .orCmpPi32 rd ra rb => wordOf 0x79 0 0 rd ra rb 0
  | .orCmpPi64 rd ra rb => wordOf 0x79 1 0 rd ra rb 0
  | .orCmpPs rd ra rb => wordOf 0x79 2 0 rd ra rb 0
  | .orCmpPd rd ra rb => wordOf 0x79 3 0 rd ra rb 0
  | .xorCmpPi32 rd ra rb => wordOf 0x7A 0 0 rd ra rb 0
  | .xorCmpPi64 rd ra rb => wordOf 0x7A 1 0 rd ra rb 0
  | .xorCmpPs rd ra rb => wordOf 0x7A 2 0 rd ra rb 0
  | .xorCmpPd rd ra rb => wordOf 0x7A 3 0 rd ra rb 0
  | .cmpeqCmpPi32 rd ra rb => wordOf 0x7B 0 0 rd ra rb 0
  | .cmpeqCmpPi64 rd ra rb => wordOf 0x7B 1 0 rd ra rb 0
  | .cmpeqCmpPs rd ra rb => wordOf 0x7B 2 0 rd ra rb 0
  | .cmpeqCmpPd rd ra rb => wordOf 0x7B 3 0 rd ra rb 0
  | .notCmpPi32 rd ra => wordOf 0x7C 0 0 rd ra 0 0
  | .notCmpPi64 rd ra => wordOf 0x7C 1 0 rd ra 0 0
  | .notCmpPs rd ra => wordOf 0x7C 2 0 rd ra 0 0
  | .notCmpPd rd ra => wordOf 0x7C 3 0 rd ra 0 0
  | .cvtcmpPi32Pi64 rd ra => wordOf 0x7D 0 1 rd ra 0 0
  | .cvtcmpPi32Ps rd ra => wordOf 0x7D 0 2 rd ra 0 0
  | .cvtcmpPi32Pd rd ra => wordOf 0x7D 0 3 rd ra 0 0
  | .cvtcmpPi64Pi32 rd ra => wordOf 0x7D 1 0 rd ra 0 0
  | .cvtcmpPi64Ps rd ra => wordOf 0x7D 1 2 rd ra 0 0
  | .cvtcmpPi64Pd rd ra => wordOf 0x7D 1 3 rd ra 0 0
  | .cvtcmpPsPi32 rd ra => wordOf 0x7D 2 0 rd ra 0 0
  | .cvtcmpPsPi64 rd ra => wordOf 0x7D 2 1 rd ra 0 0
  | .cvtcmpPsPd rd ra => wordOf 0x7D 2 3 rd ra 0 0
  | .cvtcmpPdPi32 rd ra => wordOf 0x7D 3 0 rd ra 0 0
  | .cvtcmpPdPi64 rd ra => wordOf 0x7D 3 1 rd ra 0 0
  | .cvtcmpPdPs rd ra => wordOf 0x7D 3 2 rd ra 0 0
  | .andnotCmpPi32 rd ra rb => wordOf 0x7E 0 0 rd ra rb 0
  | .andnotCmpPi64 rd ra rb => wordOf 0x7E 1 0 rd ra rb 0
  | .andnotCmpPs rd ra rb => wordOf 0x7E 2 0 rd ra rb 0
  | .andnotCmpPd rd ra rb => wordOf 0x7E 3 0 rd ra rb 0
  | .choosePi32 rd ra rb rc => wordOf 0x80 0 0 rd ra rb (regPair rc 0)
  | .choosePi64 rd ra rb rc => wordOf 0x80 1 0 rd ra rb (regPair rc 0)
  | .choosePs rd ra rb rc => wordOf 0x80 2 0 rd ra rb (regPair rc 0)
  | .choosePd rd ra rb rc => wordOf 0x80 3 0 rd ra rb (regPair rc 0)
  | .chooseElseZeroPi32 rd ra rb => wordOf 0x81 0 0 rd ra rb 0
  | .chooseElseZeroPi64 rd ra rb => wordOf 0x81 1 0 rd ra rb 0
  | .chooseElseZeroPs rd ra rb => wordOf 0x81 2 0 rd ra rb 0
  | .chooseElseZeroPd rd ra rb => wordOf 0x81 3 0 rd ra rb 0
  | .minPi32 rd ra rb => wordOf 0x90 0 0 rd ra rb 0
  | .minPi64 rd ra rb => wordOf 0x90 1 0 rd ra rb 0
  | .maxPi32 rd ra rb => wordOf 0x91 0 0 rd ra rb 0
  | .maxPi64 rd ra rb => wordOf 0x91 1 0 rd ra rb 0
  | .minFastPs rd ra rb => wordOf 0x92 2 0 rd ra rb 0
  | .minFastPd rd ra rb => wordOf 0x92 3 0 rd ra rb 0
  | .maxFastPs rd ra rb => wordOf 0x93 2 0 rd ra rb 0
  | .maxFastPd rd ra rb => wordOf 0x93 3 0 rd ra rb 0
  | .constrainPi32 rd ra rb rc => wordOf 0x94 0 0 rd ra rb (regPair rc 0)
  | .constrainPi64 rd ra rb rc => wordOf 0x94 1 0 rd ra rb (regPair rc 0)
  | .constrainPs rd ra rb rc => wordOf 0x94 2 0 rd ra rb (regPair rc 0)
  | .constrainPd rd ra rb rc => wordOf 0x94 3 0 rd ra rb (regPair rc 0)
  | .removeSignedZeroPs rd ra => wordOf 0x95 2 0 rd ra 0 0
  | .removeSignedZeroPd rd ra => wordOf 0x95 3 0 rd ra 0 0
  | .cvtPi32Pi64 rd ra => wordOf 0xA0 0 1 rd ra 0 0
  | .cvtPi32Ps rd ra => wordOf 0xA0 0 2 rd ra 0 0
  | .cvtPi32Pd rd ra => wordOf 0xA0 0 3 rd ra 0 0
  | .cvtPi64Pi32 rd ra => wordOf 0xA0 1 0 rd ra 0 0
  | .cvtPi64Ps rd ra => wordOf 0xA0 1 2 rd ra 0 0
  | .cvtPi64Pd rd ra => wordOf 0xA0 1 3 rd ra 0 0
  | .cvtPsPi32 rd ra => wordOf 0xA0 2 0 rd ra 0 0
  | .cvtPsPi64 rd ra => wordOf 0xA0 2 1 rd ra 0 0
  | .cvtPsPd rd ra => wordOf 0xA0 2 3 rd ra 0 0
  | .cvtPdPi32 rd ra => wordOf 0xA0 3 0 rd ra 0 0
  | .cvtPdPi64 rd ra => wordOf 0xA0 3 1 rd ra 0 0
  | .cvtPdPs rd ra => wordOf 0xA0 3 2 rd ra 0 0
  | .cvttPsPi32 rd ra => wordOf 0xA1 2 0 rd ra 0 0
  | .cvttPsPi64 rd ra => wordOf 0xA1 2 1 rd ra 0 0
  | .cvttPdPi32 rd ra => wordOf 0xA1 3 0 rd ra 0 0
  | .cvttPdPi64 rd ra => wordOf 0xA1 3 1 rd ra 0 0
  | .cvtfPsPi32 rd ra => wordOf 0xA2 2 0 rd ra 0 0
  | .cvtfPsPi64 rd ra => wordOf 0xA2 2 1 rd ra 0 0
  | .cvtfPdPi32 rd ra => wordOf 0xA2 3 0 rd ra 0 0
  | .cvtfPdPi64 rd ra => wordOf 0xA2 3 1 rd ra 0 0
  | .halt => wordOf 0x01 0 0 0 0 0 0

end Sys2Proof
end

