-- ==== Sys2Proof/Config.lean ====
section
/-!
DEFINITION. What the spec leaves open and an implementation fixes: the open parameters of R7, and the free values of
storage that nothing has written (R32). Every constant here is opaque and without a body, so nothing can be proved of
the value it has. Each function-typed parameter of R7 takes the instruction (its `OP` and kind) and the operand lanes,
as R7 says, and beside them the build parameters, because R8 lets `BACKEND` influence these values.
-/

namespace Sys2Proof

/-- The backend a block is built with (R8). -/
inductive Backend where
  | generic
  | sse2
  | neon
  deriving DecidableEq, Repr, Inhabited

/-- The build parameters of R7 that are plain data. -/
structure Params where
  /-- `MEM_SIZE`, bytes of data memory (R41). -/
  memSize : Nat
  /-- `IMEM_SIZE`, bytes of instruction memory (R42). -/
  imemSize : Nat
  /-- `BACKEND` (R8). -/
  backend : Backend
  /-- `FUSED_MUL_ADD` (R182). -/
  fusedMulAdd : Bool
  deriving DecidableEq, Repr

/-- The bounds R7, R41 and R42 put on the memory sizes. -/
abbrev Params.Legal (p : Params) : Prop :=
  16 ≤ p.memSize ∧ p.memSize ≤ 2 ^ 32 ∧ 4 ≤ p.imemSize ∧ p.imemSize ≤ 2 ^ 32 ∧ p.imemSize % 4 = 0

/-- The accesses that can reach a byte nothing has written: each of the two memories (R40), by the block or by the host. -/
inductive Access where
  /-- A load, from data memory. -/
  | load
  /-- A fetch, from instruction memory. -/
  | fetch
  /-- A host read of data memory. -/
  | hostData
  /-- A host read of instruction memory. -/
  | hostInstr
  deriving DecidableEq, Repr

namespace Config

/-- DESIGN CHOICE (log 5). How far `MEM_SIZE` lies above 16: any value that keeps R41's bound 2^32. -/
opaque memSizeOver16 : Fin 4294967281

/-- `MEM_SIZE` of the block that `State.reset` describes (R7). -/
def memSize : Nat := memSizeOver16.val + 16

/-- DESIGN CHOICE (log 5). How many words instruction memory has beyond the first: any number that keeps R42's bound. -/
opaque imemWordsOverOne : Fin 1073741824

/-- `IMEM_SIZE` of the block that `State.reset` describes: a multiple of 4 (R7). -/
def imemSize : Nat := 4 * imemWordsOverOne.val + 4

/-- DESIGN CHOICE (log 5). `BACKEND` of the block that `State.reset` describes (R8). -/
opaque backend : Backend

/-- DESIGN CHOICE (log 5). `FUSED_MUL_ADD` of the block that `State.reset` describes (R182). -/
opaque fusedMulAdd : Bool

/-- The build parameters of the block that `State.reset` describes. -/
def params : Params := { memSize, imemSize, backend, fusedMulAdd }

/-- Sign of the NaN that R15's `NaNdraw(opcode, kind, operand lanes)` returns (log 6). -/
opaque nanSign (p : Params) (op : BitVec 8) (k : Kind) {W : Nat} (operands : List (BitVec W)) : Bool

/-- Selects the non-zero fraction of the NaN that R15's `NaNdraw` returns (log 6). -/
opaque nanPayload (p : Params) (op : BitVec 8) (k : Kind) {W : Nat} (operands : List (BitVec W)) : Nat

/-- R179's `IntDivUndefined(K, a, b)`: a lane of which nothing is assumed (log 7). -/
opaque intDivUndefined (p : Params) (k : Kind) {W : Nat} (a b : BitVec W) : BitVec W

/-- R216's `ShiftOutOfRange(OP, K, a, b)`: a lane of which nothing is assumed (log 7). -/
opaque shiftOutOfRange (p : Params) (op : BitVec 8) (k : Kind) {W : Nat} (a b : BitVec W) : BitVec W

/-- R287's `CvtOutOfRange(OP, K, K2, b)`: a `WD`-bit lane of which nothing is assumed (log 7). -/
opaque cvtOutOfRange (p : Params) (op : BitVec 8) (k k2 : Kind) {W : Nat} (WD : Nat) (b : BitVec W) : BitVec WD

/-- R262's `MinMaxFastUndefined(OP, K, a, b)` when an operand is a NaN: nothing is assumed of it (log 8). -/
opaque minMaxFastNaN (p : Params) (op : BitVec 8) (k : Kind) {W : Nat} (a b : BitVec W) : BitVec W

/-- R262's `MinMaxFastUndefined(OP, K, a, b)` for zeros of opposite sign is one of the two zeros: `true` for `-0`
(log 8). -/
opaque minMaxFastZeroSign (p : Params) (op : BitVec 8) (k : Kind) {W : Nat} (a b : BitVec W) : Bool

/-- R257's `ChooseInvalidMask(OP, K, m, t, f)`: a lane of which nothing is assumed (log 7). -/
opaque chooseInvalidMask (p : Params) (op : BitVec 8) (k : Kind) {W : Nat} (m t f : BitVec W) : BitVec W

/-- DESIGN CHOICE (log 3). The byte that free-value number `draw` gives for the unwritten address `a` (R32, I10, I11). It
names the access, so nothing relates the bytes of the two memories, or what the host and the block see, at one address. -/
opaque unwrittenByte (access : Access) (draw a : Nat) : Byte

/-- DESIGN CHOICE (log 1). The unspecified value of vector register `r` after the reset numbered `draw` (R32). -/
opaque powerOnV (draw : Nat) (r : VReg) : Vec

/-- DESIGN CHOICE (log 2). The unspecified value of scalar register `r` after the reset numbered `draw` (R32). -/
opaque powerOnS (draw : Nat) (r : SReg) : Scalar

end Config
end Sys2Proof
end

