-- ==== Sys2Proof/Machine/Operands.lean ====
section
/-!
DEFINITION. The operand forms: lanes of a 128-bit value (R9, R22), lane-wise application of a function, the lane placement
of the widening and narrowing conversions (R280), the scalar conventions (R24), the readings of `imm8` (R64) and the
effective address (R110).
-/

namespace Sys2Proof.Machine

/-! ### Lanes -/

/-- Lane width `W` of a kind (R22). -/
def laneWidth : Kind → Nat
  | .pi32 => 32
  | .pi64 => 64
  | .ps => 32
  | .pd => 64

/-- Lane `i` of `x` at width `W`: `x[W*i + W-1 : W*i]`, lane 0 the least significant (R9). -/
def lane (W : Nat) (x : Vec) (i : Nat) : BitVec W := x.extractLsb' (W * i) W

/-- The value with the four given 32-bit lanes, written high to low (R9). -/
def pack32 (l3 l2 l1 l0 : BitVec 32) : Vec := l3 ++ l2 ++ l1 ++ l0

/-- The value with the two given 64-bit lanes, written high to low (R9). -/
def pack64 (l1 l0 : BitVec 64) : Vec := l1 ++ l0

/-- The 4-lane value whose lane `i` is `f i`. -/
def lanes32 (f : Nat → BitVec 32) : Vec := pack32 (f 3) (f 2) (f 1) (f 0)

/-- The 2-lane value whose lane `i` is `f i`. -/
def lanes64 (f : Nat → BitVec 64) : Vec := pack64 (f 1) (f 0)

/-! "for i in 0..N-1": a function of one, two or three lanes applied lane by lane (R18). -/

def map32 (f : BitVec 32 → BitVec 32) (x : Vec) : Vec := lanes32 fun i => f (lane 32 x i)

def map64 (f : BitVec 64 → BitVec 64) (x : Vec) : Vec := lanes64 fun i => f (lane 64 x i)

def zip32 (f : BitVec 32 → BitVec 32 → BitVec 32) (x y : Vec) : Vec :=
  lanes32 fun i => f (lane 32 x i) (lane 32 y i)

def zip64 (f : BitVec 64 → BitVec 64 → BitVec 64) (x y : Vec) : Vec :=
  lanes64 fun i => f (lane 64 x i) (lane 64 y i)

def zip3x32 (f : BitVec 32 → BitVec 32 → BitVec 32 → BitVec 32) (x y z : Vec) : Vec :=
  lanes32 fun i => f (lane 32 x i) (lane 32 y i) (lane 32 z i)

def zip3x64 (f : BitVec 64 → BitVec 64 → BitVec 64 → BitVec 64) (x y z : Vec) : Vec :=
  lanes64 fun i => f (lane 64 x i) (lane 64 y i) (lane 64 z i)

/-- Widening placement: result lane `i` from source lane `i` for `i` = 0, 1; source lanes 2 and 3 are ignored (R280). -/
def widen (f : BitVec 32 → BitVec 64) (x : Vec) : Vec := lanes64 fun i => f (lane 32 x i)

/-- Narrowing placement: result lane `i` from source lane `i` for `i` = 0, 1; result lanes 2 and 3 are zero (R280). -/
def narrow (f : BitVec 64 → BitVec 32) (x : Vec) : Vec := lanes32 fun i => if i < 2 then f (lane 64 x i) else 0

/-- `x` with 32-bit lane `i` replaced by `y` (R108). -/
def setLane32 (x : Vec) (i : Nat) (y : BitVec 32) : Vec := lanes32 fun j => if j = i then y else lane 32 x j

/-- `x` with 64-bit lane `i` replaced by `y` (R108). -/
def setLane64 (x : Vec) (i : Nat) (y : BitVec 64) : Vec := lanes64 fun j => if j = i then y else lane 64 x j

/-! ### Scalars -/

/-- A 32-bit scalar operand: bits 31:0 of the register (R24). -/
def low32 (x : Scalar) : BitVec 32 := x.extractLsb' 0 32

/-- A signed 32-bit scalar result fills the register by sign extension (R24). -/
def sext64 (x : BitVec 32) : Scalar := x.signExtend 64

/-- A binary32 or unsigned 32-bit scalar result fills the register with zeros (R24). -/
def zext64 (x : BitVec 32) : Scalar := x.setWidth 64

/-- A boolean scalar operand: true when any of the 64 bits is set (R105). -/
def truth (x : Scalar) : Bool := x ≠ 0

/-- A boolean scalar result: the 64-bit value 0 or 1 (R24). -/
def ofTruth (b : Bool) : Scalar := if b then 1 else 0

/-! ### Immediates -/

/-- Selector `i` of a 4-lane shuffle: `imm8[2i+1 : 2i]` (R64, R140). -/
def selector4 (imm8 : Byte) (i : Nat) : Nat := (imm8.extractLsb' (2 * i) 2).toNat

/-- Selector `i` of a 2-lane shuffle: `imm8[i]` (R64, R140). -/
def selector2 (imm8 : Byte) (i : Nat) : Nat := (imm8.extractLsb' i 1).toNat

/-- The effective address of a load or store: `(s[ra][31:0] + sext_32(imm8)) mod 2^32` (R110). -/
def effectiveAddress (base : Scalar) (imm8 : Byte) : Word := low32 base + imm8.signExtend 32

end Sys2Proof.Machine
end

