-- ==== Sys2Proof/Machine/Float.lean ====
section
/-!
DEFINITION. The floating-point primitives of rules R11 to R17 at width `W` = 32 (binary32) and `W` = 64 (binary64).

Every finite value is held exactly, as an integer number of *units*: one unit is the least subnormal magnitude
`2^(1 - bias - m)` of its width. A real to be rounded is a fraction `num / den` of units (log 14).
-/

namespace Sys2Proof.Machine

/-! ### Formats (R11) -/

/-- Fraction width `m`: 23 or 52 (R11). -/
def fracBits (W : Nat) : Nat := if W = 32 then 23 else 52

/-- Width of the exponent field: 8 or 11 (R11). -/
def expBits (W : Nat) : Nat := W - 1 - fracBits W

/-- Exponent bias: 127 or 1023 (R11). -/
def bias (W : Nat) : Nat := 2 ^ (expBits W - 1) - 1

/-- `emax`, the all-ones exponent field (R11). -/
def expMax (W : Nat) : Nat := 2 ^ expBits W - 1

/-- `Q` such that one unit is `2^-Q`: 149 or 1074 (R11: `1 - bias - m`). -/
def unitExp (W : Nat) : Nat := bias W + fracBits W - 1

/-- `sign_W(b)` (R12). -/
def signOf {W : Nat} (b : BitVec W) : Bool := b.msb

/-- The exponent field `E` (R11). -/
def expField {W : Nat} (b : BitVec W) : Nat := (b.extractLsb' (fracBits W) (expBits W)).toNat

/-- The fraction field `F` (R11). -/
def fracField {W : Nat} (b : BitVec W) : Nat := (b.extractLsb' 0 (fracBits W)).toNat

/-- `isNaN_W` (R11, R12). -/
def isNaN {W : Nat} (b : BitVec W) : Bool := expField b = expMax W && fracField b ≠ 0

/-- `isInf_W` (R11, R12). -/
def isInf {W : Nat} (b : BitVec W) : Bool := expField b = expMax W && fracField b = 0

/-- `isZero_W`: `+0` or `-0` (R11, R12). -/
def isZero {W : Nat} (b : BitVec W) : Bool := expField b = 0 && fracField b = 0

/-- `SIGN_W`, the pattern with only the sign bit set; as a number it is `-0` (R12). -/
def signBit (W : Nat) : BitVec W := BitVec.ofNat W (2 ^ (W - 1))

/-- The magnitude of a finite pattern in units: `F` if `E = 0`, else `(2^m + F) * 2^(E-1)` (R11). An infinity's pattern
gives a number above that of every finite pattern. -/
def magnitude {W : Nat} (b : BitVec W) : Nat :=
  if expField b = 0 then fracField b else (2 ^ fracBits W + fracField b) * 2 ^ (expField b - 1)

/-- `val_W(b)` in units (R12). -/
def scaled {W : Nat} (b : BitVec W) : Int := if signOf b then -(magnitude b : Int) else magnitude b

/-- The pattern of sign `neg` whose bits below the sign are the number `n`. -/
def withSign (W : Nat) (neg : Bool) (n : Nat) : BitVec W :=
  BitVec.ofNat W ((if neg then 2 ^ (W - 1) else 0) + n)

/-- The infinity of sign `neg` (R11). -/
def infinity (W : Nat) (neg : Bool) : BitVec W := withSign W neg (expMax W * 2 ^ fracBits W)

/-- The zero of sign `neg` (R11). -/
def zero (W : Nat) (neg : Bool) : BitVec W := withSign W neg 0

/-! ### Rounding (R13) -/

/-- `num / den` rounded to the nearest natural number, ties to the even one (R13, R17). -/
def rneDiv (num den : Nat) : Nat :=
  let q := num / den
  let r := num % den
  if 2 * r < den then q
  else if den < 2 * r then q + 1
  else if q % 2 = 0 then q else q + 1

/-- The exponent `e` of the grid around `num / den` units: the patterns near it are spaced `2^e` units apart. Below
`2^(m+1)` units lie the subnormal numbers and the least normal binade, all spaced one unit apart (gradual underflow). -/
def gridExp (W num den : Nat) : Nat := (num / den).log2 - fracBits W

/-- The bits below the sign of `round_W` of the magnitude `num / den` units. With `r` the rounded number of grid steps
`2^e`, the pattern is `e * 2^m + r`: exponent and fraction field are one number that a carry runs through, and from the
largest finite value it runs into the infinity (R13). -/
def roundMagnitude (W num den : Nat) : Nat :=
  let e := gridExp W num den
  min (e * 2 ^ fracBits W + rneDiv num (den * 2 ^ e)) (expMax W * 2 ^ fracBits W)

/-- `round_W` of the real of sign `neg` and magnitude `num / den` units (R13). -/
def roundTo (W : Nat) (neg : Bool) (num den : Nat) : BitVec W := withSign W neg (roundMagnitude W num den)

/-! ### NaN results (R15) -/

/-- `NaNdraw(opcode, kind, operand lanes)`: some NaN of width `W`, of which nothing else is known (R15, log 6). -/
def nanDraw (W : Nat) (p : Params) (op : BitVec 8) (k : Kind) {WS : Nat} (operands : List (BitVec WS)) : BitVec W :=
  withSign W (Config.nanSign p op k operands)
    (expMax W * 2 ^ fracBits W + (1 + Config.nanPayload p op k operands % (2 ^ fracBits W - 1)))

/-! ### Arithmetic (R14). The argument `nan` is the value of `NaNdraw` for the instruction and lane at hand. -/

/-- `fadd_W` (R14). -/
def fadd {W : Nat} (nan a b : BitVec W) : BitVec W :=
  if isNaN a || isNaN b then nan
  else if isInf a then (if isInf b && signOf a != signOf b then nan else a)
  else if isInf b then b
  else
    let x := scaled a + scaled b
    if x = 0 then (if a = signBit W && b = signBit W then signBit W else 0)
    else roundTo W (x < 0) x.natAbs 1

/-- `fsub_W(a, b) = fadd_W(a, b ^ SIGN_W)` (R14). -/
def fsub {W : Nat} (nan a b : BitVec W) : BitVec W := fadd nan a (b ^^^ signBit W)

/-- `fmul_W` (R14). -/
def fmul {W : Nat} (nan a b : BitVec W) : BitVec W :=
  let sg := signOf a != signOf b
  if isNaN a || isNaN b then nan
  else if isInf a && isZero b || isZero a && isInf b then nan
  else if isInf a || isInf b then infinity W sg
  else if isZero a || isZero b then zero W sg
  else roundTo W sg (magnitude a * magnitude b) (2 ^ unitExp W)

/-- `fdiv_W` (R14). -/
def fdiv {W : Nat} (nan a b : BitVec W) : BitVec W :=
  let sg := signOf a != signOf b
  if isNaN a || isNaN b then nan
  else if isZero a && isZero b || isInf a && isInf b then nan
  else if isInf a then infinity W sg
  else if isInf b then zero W sg
  else if isZero b then infinity W sg
  else if isZero a then zero W sg
  else roundTo W sg (magnitude a * 2 ^ unitExp W) (magnitude b)

/-- `ffma_W(a, b, c)`: `a * b + c` with one rounding (R14). -/
def ffma {W : Nat} (nan a b c : BitVec W) : BitVec W :=
  let sg := signOf a != signOf b
  if isNaN a || isNaN b || isNaN c then nan
  else if isInf a && isZero b || isZero a && isInf b then nan
  else if isInf a || isInf b then (if isInf c && sg != signOf c then nan else infinity W sg)
  else if isInf c then c
  else
    let x := scaled a * scaled b + scaled c * 2 ^ unitExp W
    if x = 0 then (if sg && (isZero a || isZero b) && c = signBit W then signBit W else 0)
    else roundTo W (x < 0) x.natAbs (2 ^ unitExp W)

/-! ### Comparison (R16) -/

/-- A comparison that is false if an operand is a NaN (R16). -/
def ordered {W : Nat} (holds : Int → Int → Bool) (a b : BitVec W) : Bool :=
  !(isNaN a || isNaN b) && holds (scaled a) (scaled b)

/-- `flt_W` (R16). -/
def flt {W : Nat} (a b : BitVec W) : Bool := ordered (fun x y => x < y) a b

/-- `fle_W` (R16). -/
def fle {W : Nat} (a b : BitVec W) : Bool := ordered (fun x y => x ≤ y) a b

/-- `feq_W` (R16). -/
def feq {W : Nat} (a b : BitVec W) : Bool := ordered (fun x y => x = y) a b

/-- `fne_W`: true if an operand is a NaN (R16). -/
def fne {W : Nat} (a b : BitVec W) : Bool := isNaN a || isNaN b || scaled a ≠ scaled b

/-- `fge_W` (R16). -/
def fge {W : Nat} (a b : BitVec W) : Bool := ordered (fun x y => x ≥ y) a b

/-- `fgt_W` (R16). -/
def fgt {W : Nat} (a b : BitVec W) : Bool := ordered (fun x y => x > y) a b

/-! ### Conversion (R17) -/

/-- `i2f_W(n)` (R17). -/
def i2f (W : Nat) (n : Int) : BitVec W :=
  if n = 0 then 0 else roundTo W (n < 0) (n.natAbs * 2 ^ unitExp W) 1

/-- `f2f_WD(b)` (R17). -/
def f2f {W : Nat} (WD : Nat) (nan : BitVec WD) (b : BitVec W) : BitVec WD :=
  if isNaN b then nan
  else if isInf b then infinity WD (signOf b)
  else if isZero b then zero WD (signOf b)
  else roundTo WD (signOf b) (magnitude b * 2 ^ unitExp WD) (2 ^ unitExp W)

/-- The rounding functions from reals to integers (R17). -/
inductive Rounding where
  /-- To nearest, ties to the even integer. -/
  | rne
  /-- Toward zero. -/
  | trunc
  /-- Toward minus infinity. -/
  | floor
  deriving DecidableEq, Repr

/-- The fraction `n / d` rounded to an integer (R17). -/
def Rounding.apply : Rounding → Int → Nat → Int
  | .rne, n, d => if n < 0 then -(rneDiv n.natAbs d : Int) else rneDiv n.natAbs d
  | .trunc, n, d => n.tdiv d
  | .floor, n, d => n.fdiv d

/-- `f2i(rnd, WD, b)`, with `undefinedValue` the value of `CvtOutOfRange` for the instruction and lane at hand (R287). -/
def f2i {W : Nat} (rnd : Rounding) (WD : Nat) (undefinedValue : BitVec WD) (b : BitVec W) : BitVec WD :=
  if isNaN b || isInf b then undefinedValue
  else
    let n := rnd.apply (scaled b) (2 ^ unitExp W)
    if -(2 ^ (WD - 1)) ≤ n ∧ n ≤ 2 ^ (WD - 1) - 1 then BitVec.ofInt WD n else undefinedValue

end Sys2Proof.Machine
end

