-- ==== Sys2Proof/Machine/State.lean ====
section
/-!
DEFINITION. The architectural state of R20, whole, as plain data; the reset state of R31; and the reasons a step can
stop. The spec's own faults are no reason to stop: they are states (R26, R311), so `Fault` has no constructor.
-/

namespace Sys2Proof.Machine

/-- The run state `RS` of R26; the code 3 never occurs (I17). -/
inductive RunState where
  | halted
  | running
  | faulted
  deriving DecidableEq, Repr

/-- A memory: the bytes that have been written, as (address, byte) pairs in strictly rising order of address. An
address that is not listed has no value: R32 leaves it unspecified, and an access to it draws a free value (log 3). -/
abbrev Memory := List Host.Cell

/-- The canonical form of a memory: addresses strictly rising. (No value is what an unlisted address reads as, so no
entry can be redundant.) -/
def Memory.wf : Memory → Bool
  | [] => true
  | c :: m => m.all (fun d => c.1 < d.1) && Memory.wf m

/-- The reasons for which the machine would stop without a next state. There are none: each of the four faults of R312
is entered as a next state with `RS` = FAULTED (R311), and every arithmetic corner has a result (R315). -/
inductive Fault : Type
  deriving DecidableEq, Repr

/-- The reasons for which the model gives no meaning. -/
inductive Refusal where
  /-- Raised by `exec` for an instruction that has no meaning yet. Safe: nothing can be proved past it. -/
  | notModelled (mnemonic : String)
  /-- Raised by `hostMove` for a move R325 allows only while `RS` is not RUNNING: "the spec gives such a move no
  meaning" (I12). Safe within the model; a real host that broke its duty is not covered (log 12). -/
  | hostMoveWhileRunning
  deriving DecidableEq, Repr

/-- The state of one block (R20). `params`, `draws` and `runStores` are the model's own fields (logs 5, 4 and 21). -/
structure State where
  /-- Vector registers `v0` .. `v15` (R21). -/
  v : Vector Vec 16
  /-- Scalar registers `s0` .. `s15` (R24). -/
  s : Vector Scalar 16
  /-- Program counter (R25). -/
  pc : Word
  /-- Run state (R26). -/
  rs : RunState
  /-- Fault cause code, host register `H1` (R26, R312). -/
  cause : BitVec 4
  /-- `pc` of the faulting instruction, host register `H2` (R26). -/
  fpc : Word
  /-- Fault information, host register `H3` (R26). -/
  finfo : Word
  /-- Data memory (R41). -/
  dmem : Memory
  /-- Instruction memory (R42). -/
  imem : Memory
  /-- The build parameters of R7, which no step and no host move changes (log 5). -/
  params : Params
  /-- How many free values have been drawn for unwritten storage (log 4). -/
  draws : Nat
  /-- The effective addresses of the stores this run has made, the latest first: what R326 asks of a reset that interrupts
  the run (log 21). No step reads it. -/
  runStores : List Word
  deriving DecidableEq, Repr

/-- The machine right after power-on reset (R31). The registers hold unconstrained values (logs 1, 2), the memories hold
nothing (log 3), the build parameters are unconstrained (log 5). -/
def State.reset : State where
  v := Vector.ofFn (Config.powerOnV 0)
  s := Vector.ofFn (Config.powerOnS 0)
  pc := 0
  rs := .halted
  cause := 0
  fpc := 0
  finfo := 0
  dmem := []
  imem := []
  params := Config.params
  draws := 1
  runStores := []

end Sys2Proof.Machine
end

