-- ==== Sys2Proof/Machine/Ops.lean ====
section
/-!
DEFINITION. The named operations every instruction is written with: the register files, the two memories (R43, R44), the
program counter, the fault primitive (R311) and the ways an instruction ends (R18).
-/

namespace Sys2Proof.Machine

/-- What an instruction or a step answers. -/
abbrev Answer := Host.Outcome State Fault Refusal

/-! ### Registers -/

/-- `v[r]` (R18). No vector register is hardwired or aliased (R21). -/
def readV (s : State) (r : VReg) : Vec := s.v[r]

/-- `v[r] <- x` (R18). -/
def writeV (s : State) (r : VReg) (x : Vec) : State := { s with v := s.v.set r x }

/-- `s[r]` (R18). No scalar register is hardwired (R24). -/
def readS (s : State) (r : SReg) : Scalar := s.s[r]

/-- `s[r] <- x` (R18). -/
def writeS (s : State) (r : SReg) (x : Scalar) : State := { s with s := s.s.set r x }

/-- `pc <- (pc + 4) mod 2^32` (R25). -/
def advance (s : State) : State := { s with pc := s.pc + 4 }

/-! ### How an instruction ends -/

/-- The instruction writes `v[rd]` and nothing else, and `pc` advances (R18, R344). -/
def doneV (s : State) (rd : VReg) (x : Vec) : Answer := .next (advance (writeV s rd x))

/-- The instruction writes `s[rd]` and nothing else, and `pc` advances (R18, R344). -/
def doneS (s : State) (rd : SReg) (x : Scalar) : Answer := .next (advance (writeS s rd x))

/-! The register formats of R62 as ways to run a function of 128 bits or of one lane (R18). All sources are read from the
state before the write (R345). -/

/-- Format `VV` on all 128 bits. -/
def vv128 (f : Vec → Vec) (rd ra : VReg) (s : State) : Answer := doneV s rd (f (readV s ra))

/-- Format `VVV` on all 128 bits. -/
def vvv128 (f : Vec → Vec → Vec) (rd ra rb : VReg) (s : State) : Answer := doneV s rd (f (readV s ra) (readV s rb))

/-- Format `VV` on 32-bit lanes. -/
def vv32 (f : BitVec 32 → BitVec 32) (rd ra : VReg) (s : State) : Answer := doneV s rd (map32 f (readV s ra))

/-- Format `VV` on 64-bit lanes. -/
def vv64 (f : BitVec 64 → BitVec 64) (rd ra : VReg) (s : State) : Answer := doneV s rd (map64 f (readV s ra))

/-- Format `VVV` on 32-bit lanes. -/
def vvv32 (f : BitVec 32 → BitVec 32 → BitVec 32) (rd ra rb : VReg) (s : State) : Answer :=
  doneV s rd (zip32 f (readV s ra) (readV s rb))

/-- Format `VVV` on 64-bit lanes. -/
def vvv64 (f : BitVec 64 → BitVec 64 → BitVec 64) (rd ra rb : VReg) (s : State) : Answer :=
  doneV s rd (zip64 f (readV s ra) (readV s rb))

/-- Format `VVVV` on 32-bit lanes. -/
def vvvv32 (f : BitVec 32 → BitVec 32 → BitVec 32 → BitVec 32) (rd ra rb rc : VReg) (s : State) : Answer :=
  doneV s rd (zip3x32 f (readV s ra) (readV s rb) (readV s rc))

/-- Format `VVVV` on 64-bit lanes. -/
def vvvv64 (f : BitVec 64 → BitVec 64 → BitVec 64 → BitVec 64) (rd ra rb rc : VReg) (s : State) : Answer :=
  doneV s rd (zip3x64 f (readV s ra) (readV s rb) (readV s rc))

/-- Format `VV` with the widening placement of R280. -/
def vvWiden (f : BitVec 32 → BitVec 64) (rd ra : VReg) (s : State) : Answer := doneV s rd (widen f (readV s ra))

/-- Format `VV` with the narrowing placement of R280. -/
def vvNarrow (f : BitVec 64 → BitVec 32) (rd ra : VReg) (s : State) : Answer := doneV s rd (narrow f (readV s ra))

/-! ### Memory -/

/-- The byte at an address, `none` where nothing has been written. -/
def readCell : Memory → Nat → Option Byte
  | [], _ => none
  | c :: m, a => if a = c.1 then some c.2 else readCell m a

/-- The memory with one byte written; the addresses stay strictly rising. -/
def writeCell : Memory → Nat → Byte → Memory
  | [], a, b => [(a, b)]
  | c :: m, a, b =>
    if a < c.1 then (a, b) :: c :: m
    else if a = c.1 then (a, b) :: m
    else c :: writeCell m a b

/-- The memory with a list of (address, byte) pairs written, first to last. -/
def writeCells (m : Memory) (cells : List Host.Cell) : Memory :=
  cells.foldl (fun m c => writeCell m c.1 c.2) m

/-- The addresses of an `n`-byte access at `addr`: `(addr + k) mod 2^32` for k = 0 .. n-1 (R44). -/
def accessAddrs (addr : Word) (n : Nat) : List Nat :=
  (List.range n).map fun k => (addr.toNat + k) % 2 ^ 32

/-- R44's bounds check: every byte address of the access lies below the size of the memory. -/
def inBounds (size : Nat) (addr : Word) (n : Nat) : Bool :=
  (accessAddrs addr n).all fun a => a < size

/-- Whether every byte at `addrs` has been written. -/
def allWritten (m : Memory) (addrs : List Nat) : Bool :=
  addrs.all fun a => (readCell m a).isSome

/-- One byte as an access sees it: the byte written last, or where nothing was, free value number `draw` of that kind of
access (R32). DESIGN CHOICE (log 3): a byte that nothing has written is drawn for each memory and for the block and the
host apart, so no two of them agree by the model; two host reads of it agree until the counter moves. -/
def seenByte (access : Access) (m : Memory) (draw a : Nat) : Byte :=
  (readCell m a).getD (Config.unwrittenByte access draw a)

/-- The bytes an access sees, lowest address first. -/
def seenBytes (access : Access) (m : Memory) (draw : Nat) (addrs : List Nat) : List Byte :=
  addrs.map (seenByte access m draw)

/-- The state after an access to `addrs` of memory `m`: a free value that was drawn is spent, so that the next access
draws another (R32, log 4). -/
def spendDraw (s : State) (m : Memory) (addrs : List Nat) : State :=
  if allWritten m addrs then s else { s with draws := s.draws + 1 }

/-- The value of `MemRead(addr, 16)` once the bounds check has passed: byte `k` of the value from address `addr + k`
(R44, R45). -/
def loadValue (s : State) (addr : Word) : Vec :=
  BitVec.ofNat 128 (natOfBytes (seenBytes .load s.dmem s.draws (accessAddrs addr 16)))

/-- The cells `MemWrite(addr, 16, x)` writes: byte `k` of `x` at address `addr + k` (R44, R45). -/
def storeCells (addr : Word) (x : Vec) : List Host.Cell :=
  (List.range 16).map fun k => ((addr.toNat + k) % 2 ^ 32, byteOf x k)

/-! ### Faults -/

/-- The four faults of R312, each with the value it records in `FINFO`. -/
inductive ArchFault where
  | illegalInstruction (w : Word)
  | memAccessFault (addr : Word)
  | fetchMisaligned (pc : Word)
  | fetchFault (pc : Word)
  deriving DecidableEq, Repr

/-- The code a fault writes to `CAUSE` (R312). -/
def faultCode : ArchFault → BitVec 4
  | .illegalInstruction _ => 1
  | .memAccessFault _ => 2
  | .fetchMisaligned _ => 3
  | .fetchFault _ => 4

/-- The value a fault writes to `FINFO` (R312). -/
def faultInfo : ArchFault → Word
  | .illegalInstruction w => w
  | .memAccessFault addr => addr
  | .fetchMisaligned pc => pc
  | .fetchFault pc => pc

/-- The fault primitive `raise F(info)` (R311): the fault record is written and the block stops; `pc`, the registers
and the memories stay as they are. There is no return from a fault to stand beside it: only reset leaves FAULTED (R314),
`hostReset` of Machine/HostPort.lean. -/
def raise (s : State) (f : ArchFault) : State :=
  { s with cause := faultCode f, fpc := s.pc, finfo := faultInfo f, rs := .faulted }

/-! ### Load and store -/

/-- `v[rd] <- MemRead(ea, 16)`, or `MemAccessFault` with `v[rd]` unchanged (R44, R115). -/
def loadVec (s : State) (rd : VReg) (ea : Word) : Answer :=
  if inBounds s.params.memSize ea 16 then
    doneV (spendDraw s s.dmem (accessAddrs ea 16)) rd (loadValue s ea)
  else .next (raise s (.memAccessFault ea))

/-- The state after `MemWrite(ea, 16, x)` (R44, R45). The store is noted as one of the run's, for a reset that interrupts
the run (R326, log 21). -/
def storeBytes (s : State) (ea : Word) (x : Vec) : State :=
  { s with dmem := writeCells s.dmem (storeCells ea x), runStores := ea :: s.runStores }

/-- `MemWrite(ea, 16, x)`, or `MemAccessFault` with no byte written (R44, R116). -/
def storeVec (s : State) (ea : Word) (x : Vec) : Answer :=
  if inBounds s.params.memSize ea 16 then
    .next (advance (storeBytes s ea x))
  else .next (raise s (.memAccessFault ea))

/-! ### Fetch -/

/-- The addresses of the four bytes of the instruction at `pc` (R43). -/
def fetchAddrs (pc : Word) : List Nat := (List.range 4).map fun k => pc.toNat + k

/-- The instruction word at `pc`: little-endian, the byte at `pc` is bits 7:0 (R43). -/
def fetchWord (s : State) : Word :=
  wordOfBytes (seenBytes .fetch s.imem s.draws (fetchAddrs s.pc))

/-- The state after the fetch, which differs only if an unwritten byte was fetched (I11, log 4). -/
def afterFetch (s : State) : State := spendDraw s s.imem (fetchAddrs s.pc)

/-- The cells that put the bytes of an instruction where the next fetch looks. -/
def placedCells (s : State) (bs : List Byte) : List Host.Cell := (fetchAddrs s.pc).zip bs

end Sys2Proof.Machine
end

