-- ==== Sys2Proof/Machine/Arithmetic.lean ====
section
/-!
DEFINITION. Arithmetic, lane by lane (44_arithmetic.md). Integer lanes wrap modulo 2^W, as `BitVec` arithmetic does.
-/

namespace Sys2Proof.Machine

/-! ### The lane functions that R170's operations share between lane widths -/

/-- Signed division, toward zero; a zero divisor and the overflowing quotient are left to `IntDivUndefined` (R178, R179). -/
def divLane (p : Params) (k : Kind) {W : Nat} (a b : BitVec W) : BitVec W :=
  if b.toInt = 0 then Config.intDivUndefined p k a b
  else if a.toInt = -(2 ^ (W - 1)) ∧ b.toInt = -1 then Config.intDivUndefined p k a b
  else BitVec.ofInt W (a.toInt.tdiv b.toInt)

/-- Integer safe division: the dividend where the divisor is zero (R183). -/
def safedivLane (p : Params) (k : Kind) {W : Nat} (a b : BitVec W) : BitVec W :=
  if b = 0 then a else divLane p k a b

/-- Absolute value by compare and negate: the most negative value stays (R187). -/
def absLane {W : Nat} (a : BitVec W) : BitVec W := if a.msb then 0 - a else a

/-- Float safe division: the dividend's bits where the divisor is a zero of either sign (R184). -/
def fsafediv {W : Nat} (nan a b : BitVec W) : BitVec W := if isZero b then a else fdiv nan a b

/-- Multiply-add with one or two roundings, by the build parameter (R182). -/
def fmulAdd {W : Nat} (p : Params) (nan a b c : BitVec W) : BitVec W :=
  if p.fusedMulAdd then ffma nan a b c else fadd nan (fmul nan a b) c

/-! ### Add and subtract -/

/-- `add_pi32` (R171). -/
def execAddPi32 (rd ra rb : VReg) (s : State) : Answer := vvv32 (fun a b => a + b) rd ra rb s

/-- `add_pi64` (R171). -/
def execAddPi64 (rd ra rb : VReg) (s : State) : Answer := vvv64 (fun a b => a + b) rd ra rb s

/-- `add_ps` (R172). -/
def execAddPs (rd ra rb : VReg) (s : State) : Answer :=
  vvv32 (fun a b => fadd (nanDraw 32 s.params 0x40 .ps [a, b]) a b) rd ra rb s

/-- `add_pd` (R172). -/
def execAddPd (rd ra rb : VReg) (s : State) : Answer :=
  vvv64 (fun a b => fadd (nanDraw 64 s.params 0x40 .pd [a, b]) a b) rd ra rb s

/-- `sub_pi32` (R173). -/
def execSubPi32 (rd ra rb : VReg) (s : State) : Answer := vvv32 (fun a b => a - b) rd ra rb s

/-- `sub_pi64` (R173). -/
def execSubPi64 (rd ra rb : VReg) (s : State) : Answer := vvv64 (fun a b => a - b) rd ra rb s

/-- `sub_ps` (R174). -/
def execSubPs (rd ra rb : VReg) (s : State) : Answer :=
  vvv32 (fun a b => fsub (nanDraw 32 s.params 0x41 .ps [a, b]) a b) rd ra rb s

/-- `sub_pd` (R174). -/
def execSubPd (rd ra rb : VReg) (s : State) : Answer :=
  vvv64 (fun a b => fsub (nanDraw 64 s.params 0x41 .pd [a, b]) a b) rd ra rb s

/-! ### Multiply -/

/-- `mul_pi32` (R175). -/
def execMulPi32 (rd ra rb : VReg) (s : State) : Answer := vvv32 (fun a b => a * b) rd ra rb s

/-- `mul_pi64` (R175). -/
def execMulPi64 (rd ra rb : VReg) (s : State) : Answer := vvv64 (fun a b => a * b) rd ra rb s

/-- `mul_ps` (R177). -/
def execMulPs (rd ra rb : VReg) (s : State) : Answer :=
  vvv32 (fun a b => fmul (nanDraw 32 s.params 0x42 .ps [a, b]) a b) rd ra rb s

/-- `mul_pd` (R177). -/
def execMulPd (rd ra rb : VReg) (s : State) : Answer :=
  vvv64 (fun a b => fmul (nanDraw 64 s.params 0x42 .pd [a, b]) a b) rd ra rb s

/-! ### Divide -/

/-- `div_pi32` (R178). -/
def execDivPi32 (rd ra rb : VReg) (s : State) : Answer := vvv32 (divLane s.params .pi32) rd ra rb s

/-- `div_pi64` (R178). -/
def execDivPi64 (rd ra rb : VReg) (s : State) : Answer := vvv64 (divLane s.params .pi64) rd ra rb s

/-- `div_ps` (R180). -/
def execDivPs (rd ra rb : VReg) (s : State) : Answer :=
  vvv32 (fun a b => fdiv (nanDraw 32 s.params 0x43 .ps [a, b]) a b) rd ra rb s

/-- `div_pd` (R180). -/
def execDivPd (rd ra rb : VReg) (s : State) : Answer :=
  vvv64 (fun a b => fdiv (nanDraw 64 s.params 0x43 .pd [a, b]) a b) rd ra rb s

/-! ### Multiply-add -/

/-- `mul_add_ps` (R182). -/
def execMulAddPs (rd ra rb rc : VReg) (s : State) : Answer :=
  vvvv32 (fun a b c => fmulAdd s.params (nanDraw 32 s.params 0x44 .ps [a, b, c]) a b c) rd ra rb rc s

/-- `mul_add_pd` (R182). -/
def execMulAddPd (rd ra rb rc : VReg) (s : State) : Answer :=
  vvvv64 (fun a b c => fmulAdd s.params (nanDraw 64 s.params 0x44 .pd [a, b, c]) a b c) rd ra rb rc s

/-! ### Safe division -/

/-- `safediv_pi32` (R183). -/
def execSafedivPi32 (rd ra rb : VReg) (s : State) : Answer := vvv32 (safedivLane s.params .pi32) rd ra rb s

/-- `safediv_pi64` (R183). -/
def execSafedivPi64 (rd ra rb : VReg) (s : State) : Answer := vvv64 (safedivLane s.params .pi64) rd ra rb s

/-- `safediv_ps` (R184). -/
def execSafedivPs (rd ra rb : VReg) (s : State) : Answer :=
  vvv32 (fun a b => fsafediv (nanDraw 32 s.params 0x45 .ps [a, b]) a b) rd ra rb s

/-- `safediv_pd` (R184). -/
def execSafedivPd (rd ra rb : VReg) (s : State) : Answer :=
  vvv64 (fun a b => fsafediv (nanDraw 64 s.params 0x45 .pd [a, b]) a b) rd ra rb s

/-! ### Negate and absolute value -/

/-- `neg_pi32` (R185). -/
def execNegPi32 (rd ra : VReg) (s : State) : Answer := vv32 (fun a => 0 - a) rd ra s

/-- `neg_pi64` (R185). -/
def execNegPi64 (rd ra : VReg) (s : State) : Answer := vv64 (fun a => 0 - a) rd ra s

/-- `neg_ps` (R186). -/
def execNegPs (rd ra : VReg) (s : State) : Answer := vv32 (fun a => a ^^^ signBit 32) rd ra s

/-- `neg_pd` (R186). -/
def execNegPd (rd ra : VReg) (s : State) : Answer := vv64 (fun a => a ^^^ signBit 64) rd ra s

/-- `abs_pi32` (R187). -/
def execAbsPi32 (rd ra : VReg) (s : State) : Answer := vv32 absLane rd ra s

/-- `abs_pi64` (R187). -/
def execAbsPi64 (rd ra : VReg) (s : State) : Answer := vv64 absLane rd ra s

/-- `abs_ps` (R188). -/
def execAbsPs (rd ra : VReg) (s : State) : Answer := vv32 (fun a => a &&& ~~~signBit 32) rd ra s

/-- `abs_pd` (R188). -/
def execAbsPd (rd ra : VReg) (s : State) : Answer := vv64 (fun a => a &&& ~~~signBit 64) rd ra s

end Sys2Proof.Machine
end

