-- ==== Sys2Proof/Machine/Bitcast.lean ====
section
/-!
DEFINITION. Vector, mask and scalar bitcasts (41_bitcast.md). A bitcast never changes a bit (R130).
-/

namespace Sys2Proof.Machine

/-! ### Vector and mask bitcasts: copies of all 128 bits (R130) -/

/-- `bitcast_pi32_pi64` (R131). -/
def execBitcastPi32Pi64 (rd ra : VReg) (s : State) : Answer := vv128 (fun x => x) rd ra s

/-- `bitcast_pi32_ps` (R131). -/
def execBitcastPi32Ps (rd ra : VReg) (s : State) : Answer := vv128 (fun x => x) rd ra s

/-- `bitcast_pi32_pd` (R131). -/
def execBitcastPi32Pd (rd ra : VReg) (s : State) : Answer := vv128 (fun x => x) rd ra s

/-- `bitcast_pi64_pi32` (R131). -/
def execBitcastPi64Pi32 (rd ra : VReg) (s : State) : Answer := vv128 (fun x => x) rd ra s

/-- `bitcast_pi64_ps` (R131). -/
def execBitcastPi64Ps (rd ra : VReg) (s : State) : Answer := vv128 (fun x => x) rd ra s

/-- `bitcast_pi64_pd` (R131). -/
def execBitcastPi64Pd (rd ra : VReg) (s : State) : Answer := vv128 (fun x => x) rd ra s

/-- `bitcast_ps_pi32` (R131). -/
def execBitcastPsPi32 (rd ra : VReg) (s : State) : Answer := vv128 (fun x => x) rd ra s

/-- `bitcast_ps_pi64` (R131). -/
def execBitcastPsPi64 (rd ra : VReg) (s : State) : Answer := vv128 (fun x => x) rd ra s

/-- `bitcast_ps_pd` (R131). -/
def execBitcastPsPd (rd ra : VReg) (s : State) : Answer := vv128 (fun x => x) rd ra s

/-- `bitcast_pd_pi32` (R131). -/
def execBitcastPdPi32 (rd ra : VReg) (s : State) : Answer := vv128 (fun x => x) rd ra s

/-- `bitcast_pd_pi64` (R131). -/
def execBitcastPdPi64 (rd ra : VReg) (s : State) : Answer := vv128 (fun x => x) rd ra s

/-- `bitcast_pd_ps` (R131). -/
def execBitcastPdPs (rd ra : VReg) (s : State) : Answer := vv128 (fun x => x) rd ra s

/-- `bitcast_cmp_pi32_pi64` (R132). -/
def execBitcastCmpPi32Pi64 (rd ra : VReg) (s : State) : Answer := vv128 (fun x => x) rd ra s

/-- `bitcast_cmp_pi32_ps` (R132). -/
def execBitcastCmpPi32Ps (rd ra : VReg) (s : State) : Answer := vv128 (fun x => x) rd ra s

/-- `bitcast_cmp_pi32_pd` (R132). -/
def execBitcastCmpPi32Pd (rd ra : VReg) (s : State) : Answer := vv128 (fun x => x) rd ra s

/-- `bitcast_cmp_pi64_pi32` (R132). -/
def execBitcastCmpPi64Pi32 (rd ra : VReg) (s : State) : Answer := vv128 (fun x => x) rd ra s

/-- `bitcast_cmp_pi64_ps` (R132). -/
def execBitcastCmpPi64Ps (rd ra : VReg) (s : State) : Answer := vv128 (fun x => x) rd ra s

/-- `bitcast_cmp_pi64_pd` (R132). -/
def execBitcastCmpPi64Pd (rd ra : VReg) (s : State) : Answer := vv128 (fun x => x) rd ra s

/-- `bitcast_cmp_ps_pi32` (R132). -/
def execBitcastCmpPsPi32 (rd ra : VReg) (s : State) : Answer := vv128 (fun x => x) rd ra s

/-- `bitcast_cmp_ps_pi64` (R132). -/
def execBitcastCmpPsPi64 (rd ra : VReg) (s : State) : Answer := vv128 (fun x => x) rd ra s

/-- `bitcast_cmp_ps_pd` (R132). -/
def execBitcastCmpPsPd (rd ra : VReg) (s : State) : Answer := vv128 (fun x => x) rd ra s

/-- `bitcast_cmp_pd_pi32` (R132). -/
def execBitcastCmpPdPi32 (rd ra : VReg) (s : State) : Answer := vv128 (fun x => x) rd ra s

/-- `bitcast_cmp_pd_pi64` (R132). -/
def execBitcastCmpPdPi64 (rd ra : VReg) (s : State) : Answer := vv128 (fun x => x) rd ra s

/-- `bitcast_cmp_pd_ps` (R132). -/
def execBitcastCmpPdPs (rd ra : VReg) (s : State) : Answer := vv128 (fun x => x) rd ra s

/-! ### Scalar bitcasts -/

/-- `sbitcast_u32_i32` (R133). -/
def execSbitcastU32I32 (rd ra : SReg) (s : State) : Answer := doneS s rd (sext64 (low32 (readS s ra)))

/-- `sbitcast_u32_f32` (R133). -/
def execSbitcastU32F32 (rd ra : SReg) (s : State) : Answer := doneS s rd (zext64 (low32 (readS s ra)))

/-- `sbitcast_i32_u32` (R133). -/
def execSbitcastI32U32 (rd ra : SReg) (s : State) : Answer := doneS s rd (zext64 (low32 (readS s ra)))

/-- `sbitcast_i32_f32` (R133). -/
def execSbitcastI32F32 (rd ra : SReg) (s : State) : Answer := doneS s rd (zext64 (low32 (readS s ra)))

/-- `sbitcast_f32_u32` (R133). -/
def execSbitcastF32U32 (rd ra : SReg) (s : State) : Answer := doneS s rd (zext64 (low32 (readS s ra)))

/-- `sbitcast_f32_i32` (R133). -/
def execSbitcastF32I32 (rd ra : SReg) (s : State) : Answer := doneS s rd (sext64 (low32 (readS s ra)))

/-- `sbitcast_u64_i64` (R133). -/
def execSbitcastU64I64 (rd ra : SReg) (s : State) : Answer := doneS s rd (readS s ra)

/-- `sbitcast_u64_f64` (R133). -/
def execSbitcastU64F64 (rd ra : SReg) (s : State) : Answer := doneS s rd (readS s ra)

/-- `sbitcast_i64_u64` (R133). -/
def execSbitcastI64U64 (rd ra : SReg) (s : State) : Answer := doneS s rd (readS s ra)

/-- `sbitcast_i64_f64` (R133). -/
def execSbitcastI64F64 (rd ra : SReg) (s : State) : Answer := doneS s rd (readS s ra)

/-- `sbitcast_f64_u64` (R133). -/
def execSbitcastF64U64 (rd ra : SReg) (s : State) : Answer := doneS s rd (readS s ra)

/-- `sbitcast_f64_i64` (R133). -/
def execSbitcastF64I64 (rd ra : SReg) (s : State) : Answer := doneS s rd (readS s ra)

end Sys2Proof.Machine
end

