-- ==== Sys2Proof/Machine/Bitwise.lean ====
section
/-!
DEFINITION. The bitwise operations (45_bitwise.md), on all 128 bits: the kind plays no part (R200). The first operand
of `andnot` is the one complemented.
-/

namespace Sys2Proof.Machine

/-- `and_pi32` (R201). -/
def execAndPi32 (rd ra rb : VReg) (s : State) : Answer := vvv128 (fun x y => x &&& y) rd ra rb s

/-- `and_pi64` (R201). -/
def execAndPi64 (rd ra rb : VReg) (s : State) : Answer := vvv128 (fun x y => x &&& y) rd ra rb s

/-- `and_ps` (R201). -/
def execAndPs (rd ra rb : VReg) (s : State) : Answer := vvv128 (fun x y => x &&& y) rd ra rb s

/-- `and_pd` (R201). -/
def execAndPd (rd ra rb : VReg) (s : State) : Answer := vvv128 (fun x y => x &&& y) rd ra rb s

/-- `andnot_pi32` (R202). -/
def execAndnotPi32 (rd ra rb : VReg) (s : State) : Answer := vvv128 (fun x y => ~~~x &&& y) rd ra rb s

/-- `andnot_pi64` (R202). -/
def execAndnotPi64 (rd ra rb : VReg) (s : State) : Answer := vvv128 (fun x y => ~~~x &&& y) rd ra rb s

/-- `andnot_ps` (R202). -/
def execAndnotPs (rd ra rb : VReg) (s : State) : Answer := vvv128 (fun x y => ~~~x &&& y) rd ra rb s

/-- `andnot_pd` (R202). -/
def execAndnotPd (rd ra rb : VReg) (s : State) : Answer := vvv128 (fun x y => ~~~x &&& y) rd ra rb s

/-- `or_pi32` (R203). -/
def execOrPi32 (rd ra rb : VReg) (s : State) : Answer := vvv128 (fun x y => x ||| y) rd ra rb s

/-- `or_pi64` (R203). -/
def execOrPi64 (rd ra rb : VReg) (s : State) : Answer := vvv128 (fun x y => x ||| y) rd ra rb s

/-- `or_ps` (R203). -/
def execOrPs (rd ra rb : VReg) (s : State) : Answer := vvv128 (fun x y => x ||| y) rd ra rb s

/-- `or_pd` (R203). -/
def execOrPd (rd ra rb : VReg) (s : State) : Answer := vvv128 (fun x y => x ||| y) rd ra rb s

/-- `xor_pi32` (R204). -/
def execXorPi32 (rd ra rb : VReg) (s : State) : Answer := vvv128 (fun x y => x ^^^ y) rd ra rb s

/-- `xor_pi64` (R204). -/
def execXorPi64 (rd ra rb : VReg) (s : State) : Answer := vvv128 (fun x y => x ^^^ y) rd ra rb s

/-- `xor_ps` (R204). -/
def execXorPs (rd ra rb : VReg) (s : State) : Answer := vvv128 (fun x y => x ^^^ y) rd ra rb s

/-- `xor_pd` (R204). -/
def execXorPd (rd ra rb : VReg) (s : State) : Answer := vvv128 (fun x y => x ^^^ y) rd ra rb s

/-- `not_pi32` (R205). -/
def execNotPi32 (rd ra : VReg) (s : State) : Answer := vv128 (fun x => ~~~x) rd ra s

/-- `not_pi64` (R205). -/
def execNotPi64 (rd ra : VReg) (s : State) : Answer := vv128 (fun x => ~~~x) rd ra s

/-- `not_ps` (R205). -/
def execNotPs (rd ra : VReg) (s : State) : Answer := vv128 (fun x => ~~~x) rd ra s

/-- `not_pd` (R205). -/
def execNotPd (rd ra : VReg) (s : State) : Answer := vv128 (fun x => ~~~x) rd ra s

end Sys2Proof.Machine
end

