-- ==== Sys2Proof/Machine/Choose.lean ====
section
/-!
DEFINITION. Choose, min, max, constrain and signed-zero normalisation (48_choose_minmax_utility.md).
-/

namespace Sys2Proof.Machine

/-- One lane of `choose`: an invalid mask lane is left to `ChooseInvalidMask` (R256, R257). -/
def chooseLane (p : Params) (op : BitVec 8) (k : Kind) {W : Nat} (m t f : BitVec W) : BitVec W :=
  if m = BitVec.allOnes W then t else if m = 0 then f else Config.chooseInvalidMask p op k m t f

/-- The signed minimum (R259). -/
def minLane {W : Nat} (a b : BitVec W) : BitVec W := if a.toInt ≤ b.toInt then a else b

/-- The signed maximum (R260). -/
def maxLane {W : Nat} (a b : BitVec W) : BitVec W := if a.toInt ≥ b.toInt then a else b

/-- `min_fast` and `max_fast` where R262 leaves the result open, `defined` elsewhere: anything at all with a NaN operand,
one of the two zeros for zeros of opposite sign (log 8). -/
def fastLane (p : Params) (op : BitVec 8) (k : Kind) {W : Nat} (defined a b : BitVec W) : BitVec W :=
  if isNaN a || isNaN b then Config.minMaxFastNaN p op k a b
  else if isZero a && isZero b && a ≠ b then zero W (Config.minMaxFastZeroSign p op k a b)
  else defined

/-- One lane of `min_fast` (R261). -/
def minFastLane (p : Params) (k : Kind) {W : Nat} (a b : BitVec W) : BitVec W :=
  fastLane p 0x92 k (if flt a b then a else b) a b

/-- One lane of `max_fast` (R263). -/
def maxFastLane (p : Params) (k : Kind) {W : Nat} (a b : BitVec W) : BitVec W :=
  fastLane p 0x93 k (if flt a b then b else a) a b

/-- One lane of `remove_signed_zero` (R266). -/
def removeSignedZeroLane {W : Nat} (a : BitVec W) : BitVec W := if a = signBit W then 0 else a

/-! ### Choose -/

/-- `choose_pi32` (R256). -/
def execChoosePi32 (rd ra rb rc : VReg) (s : State) : Answer := vvvv32 (chooseLane s.params 0x80 .pi32) rd ra rb rc s

/-- `choose_pi64` (R256). -/
def execChoosePi64 (rd ra rb rc : VReg) (s : State) : Answer := vvvv64 (chooseLane s.params 0x80 .pi64) rd ra rb rc s

/-- `choose_ps` (R256). -/
def execChoosePs (rd ra rb rc : VReg) (s : State) : Answer := vvvv32 (chooseLane s.params 0x80 .ps) rd ra rb rc s

/-- `choose_pd` (R256). -/
def execChoosePd (rd ra rb rc : VReg) (s : State) : Answer := vvvv64 (chooseLane s.params 0x80 .pd) rd ra rb rc s

/-- `choose_else_zero_pi32` (R258). -/
def execChooseElseZeroPi32 (rd ra rb : VReg) (s : State) : Answer :=
  vvv32 (fun m t => chooseLane s.params 0x81 .pi32 m t 0) rd ra rb s

/-- `choose_else_zero_pi64` (R258). -/
def execChooseElseZeroPi64 (rd ra rb : VReg) (s : State) : Answer :=
  vvv64 (fun m t => chooseLane s.params 0x81 .pi64 m t 0) rd ra rb s

/-- `choose_else_zero_ps` (R258). -/
def execChooseElseZeroPs (rd ra rb : VReg) (s : State) : Answer :=
  vvv32 (fun m t => chooseLane s.params 0x81 .ps m t 0) rd ra rb s

/-- `choose_else_zero_pd` (R258). -/
def execChooseElseZeroPd (rd ra rb : VReg) (s : State) : Answer :=
  vvv64 (fun m t => chooseLane s.params 0x81 .pd m t 0) rd ra rb s

/-! ### Minimum and maximum -/

/-- `min_pi32` (R259). -/
def execMinPi32 (rd ra rb : VReg) (s : State) : Answer := vvv32 minLane rd ra rb s

/-- `min_pi64` (R259). -/
def execMinPi64 (rd ra rb : VReg) (s : State) : Answer := vvv64 minLane rd ra rb s

/-- `max_pi32` (R260). -/
def execMaxPi32 (rd ra rb : VReg) (s : State) : Answer := vvv32 maxLane rd ra rb s

/-- `max_pi64` (R260). -/
def execMaxPi64 (rd ra rb : VReg) (s : State) : Answer := vvv64 maxLane rd ra rb s

/-- `min_fast_ps` (R261). -/
def execMinFastPs (rd ra rb : VReg) (s : State) : Answer := vvv32 (minFastLane s.params .ps) rd ra rb s

/-- `min_fast_pd` (R261). -/
def execMinFastPd (rd ra rb : VReg) (s : State) : Answer := vvv64 (minFastLane s.params .pd) rd ra rb s

/-- `max_fast_ps` (R263). -/
def execMaxFastPs (rd ra rb : VReg) (s : State) : Answer := vvv32 (maxFastLane s.params .ps) rd ra rb s

/-- `max_fast_pd` (R263). -/
def execMaxFastPd (rd ra rb : VReg) (s : State) : Answer := vvv64 (maxFastLane s.params .pd) rd ra rb s

/-! ### Constrain: operands lo, hi, x -/

/-- `constrain_pi32` (R264). -/
def execConstrainPi32 (rd ra rb rc : VReg) (s : State) : Answer :=
  vvvv32 (fun lo hi x => minLane (maxLane lo x) hi) rd ra rb rc s

/-- `constrain_pi64` (R264). -/
def execConstrainPi64 (rd ra rb rc : VReg) (s : State) : Answer :=
  vvvv64 (fun lo hi x => minLane (maxLane lo x) hi) rd ra rb rc s

/-- `constrain_ps` (R265). -/
def execConstrainPs (rd ra rb rc : VReg) (s : State) : Answer :=
  vvvv32 (fun lo hi x => minFastLane s.params .ps (maxFastLane s.params .ps lo x) hi) rd ra rb rc s

/-- `constrain_pd` (R265). -/
def execConstrainPd (rd ra rb rc : VReg) (s : State) : Answer :=
  vvvv64 (fun lo hi x => minFastLane s.params .pd (maxFastLane s.params .pd lo x) hi) rd ra rb rc s

/-! ### Signed-zero normalisation -/

/-- `remove_signed_zero_ps` (R266). -/
def execRemoveSignedZeroPs (rd ra : VReg) (s : State) : Answer := vv32 removeSignedZeroLane rd ra s

/-- `remove_signed_zero_pd` (R266). -/
def execRemoveSignedZeroPd (rd ra : VReg) (s : State) : Answer := vv64 removeSignedZeroLane rd ra s

end Sys2Proof.Machine
end

