-- ==== Sys2Proof/Machine/Flags.lean ====
section
/-!
DEFINITION. The machine has no flag, no condition code and no predicate register (R27), so there is no flag to compute.
What stands in their place is here: the truth value of a lane, held as a mask lane in an ordinary vector register (R22,
R23).
-/

namespace Sys2Proof.Machine

/-- `ones(W)` for true, `zeros(W)` for false (R10, R22). -/
def maskLane (W : Nat) (b : Bool) : BitVec W := if b then BitVec.allOnes W else 0

/-- A valid mask lane is all ones or all zeros (R23). -/
def isMaskLane {W : Nat} (m : BitVec W) : Bool := m = BitVec.allOnes W || m = 0

/-- A valid mask of a kind with 32-bit lanes (R23). -/
def isMask32 (x : Vec) : Bool := (List.range 4).all fun i => isMaskLane (lane 32 x i)

/-- A valid mask of a kind with 64-bit lanes (R23). -/
def isMask64 (x : Vec) : Bool := (List.range 2).all fun i => isMaskLane (lane 64 x i)

end Sys2Proof.Machine
end

