-- ==== Sys2Proof/Machine/Compare.lean ====
section
/-!
DEFINITION. Compares, mask combinators and mask conversions (47_compare_mask.md).
-/

namespace Sys2Proof.Machine

/-! ### The six predicates -/

/-- `cmplt_pi32` (R226). -/
def execCmpltPi32 (rd ra rb : VReg) (s : State) : Answer :=
  vvv32 (fun a b => maskLane 32 (a.toInt < b.toInt)) rd ra rb s

/-- `cmplt_pi64` (R226). -/
def execCmpltPi64 (rd ra rb : VReg) (s : State) : Answer :=
  vvv64 (fun a b => maskLane 64 (a.toInt < b.toInt)) rd ra rb s

/-- `cmplt_ps` (R226). -/
def execCmpltPs (rd ra rb : VReg) (s : State) : Answer := vvv32 (fun a b => maskLane 32 (flt a b)) rd ra rb s

/-- `cmplt_pd` (R226). -/
def execCmpltPd (rd ra rb : VReg) (s : State) : Answer := vvv64 (fun a b => maskLane 64 (flt a b)) rd ra rb s

/-- `cmple_pi32` (R227). -/
def execCmplePi32 (rd ra rb : VReg) (s : State) : Answer :=
  vvv32 (fun a b => maskLane 32 (a.toInt ≤ b.toInt)) rd ra rb s

/-- `cmple_pi64` (R227). -/
def execCmplePi64 (rd ra rb : VReg) (s : State) : Answer :=
  vvv64 (fun a b => maskLane 64 (a.toInt ≤ b.toInt)) rd ra rb s

/-- `cmple_ps` (R227). -/
def execCmplePs (rd ra rb : VReg) (s : State) : Answer := vvv32 (fun a b => maskLane 32 (fle a b)) rd ra rb s

/-- `cmple_pd` (R227). -/
def execCmplePd (rd ra rb : VReg) (s : State) : Answer := vvv64 (fun a b => maskLane 64 (fle a b)) rd ra rb s

/-- `cmpeq_pi32` (R228). -/
def execCmpeqPi32 (rd ra rb : VReg) (s : State) : Answer := vvv32 (fun a b => maskLane 32 (a = b)) rd ra rb s

/-- `cmpeq_pi64` (R228). -/
def execCmpeqPi64 (rd ra rb : VReg) (s : State) : Answer := vvv64 (fun a b => maskLane 64 (a = b)) rd ra rb s

/-- `cmpeq_ps` (R228). -/
def execCmpeqPs (rd ra rb : VReg) (s : State) : Answer := vvv32 (fun a b => maskLane 32 (feq a b)) rd ra rb s

/-- `cmpeq_pd` (R228). -/
def execCmpeqPd (rd ra rb : VReg) (s : State) : Answer := vvv64 (fun a b => maskLane 64 (feq a b)) rd ra rb s

/-- `cmpneq_pi32` (R229). -/
def execCmpneqPi32 (rd ra rb : VReg) (s : State) : Answer := vvv32 (fun a b => maskLane 32 (a ≠ b)) rd ra rb s

/-- `cmpneq_pi64` (R229). -/
def execCmpneqPi64 (rd ra rb : VReg) (s : State) : Answer := vvv64 (fun a b => maskLane 64 (a ≠ b)) rd ra rb s

/-- `cmpneq_ps` (R229). -/
def execCmpneqPs (rd ra rb : VReg) (s : State) : Answer := vvv32 (fun a b => maskLane 32 (fne a b)) rd ra rb s

/-- `cmpneq_pd` (R229). -/
def execCmpneqPd (rd ra rb : VReg) (s : State) : Answer := vvv64 (fun a b => maskLane 64 (fne a b)) rd ra rb s

/-- `cmpge_pi32` (R230). -/
def execCmpgePi32 (rd ra rb : VReg) (s : State) : Answer :=
  vvv32 (fun a b => maskLane 32 (a.toInt ≥ b.toInt)) rd ra rb s

/-- `cmpge_pi64` (R230). -/
def execCmpgePi64 (rd ra rb : VReg) (s : State) : Answer :=
  vvv64 (fun a b => maskLane 64 (a.toInt ≥ b.toInt)) rd ra rb s

/-- `cmpge_ps` (R230). -/
def execCmpgePs (rd ra rb : VReg) (s : State) : Answer := vvv32 (fun a b => maskLane 32 (fge a b)) rd ra rb s

/-- `cmpge_pd` (R230). -/
def execCmpgePd (rd ra rb : VReg) (s : State) : Answer := vvv64 (fun a b => maskLane 64 (fge a b)) rd ra rb s

/-- `cmpgt_pi32` (R231). -/
def execCmpgtPi32 (rd ra rb : VReg) (s : State) : Answer :=
  vvv32 (fun a b => maskLane 32 (a.toInt > b.toInt)) rd ra rb s

/-- `cmpgt_pi64` (R231). -/
def execCmpgtPi64 (rd ra rb : VReg) (s : State) : Answer :=
  vvv64 (fun a b => maskLane 64 (a.toInt > b.toInt)) rd ra rb s

/-- `cmpgt_ps` (R231). -/
def execCmpgtPs (rd ra rb : VReg) (s : State) : Answer := vvv32 (fun a b => maskLane 32 (fgt a b)) rd ra rb s

/-- `cmpgt_pd` (R231). -/
def execCmpgtPd (rd ra rb : VReg) (s : State) : Answer := vvv64 (fun a b => maskLane 64 (fgt a b)) rd ra rb s

/-! ### Mask combinators: bitwise on all 128 bits, valid masks or not (R238) -/

/-- `and_cmp_pi32` (R233). -/
def execAndCmpPi32 (rd ra rb : VReg) (s : State) : Answer := vvv128 (fun x y => x &&& y) rd ra rb s

/-- `and_cmp_pi64` (R233). -/
def execAndCmpPi64 (rd ra rb : VReg) (s : State) : Answer := vvv128 (fun x y => x &&& y) rd ra rb s

/-- `and_cmp_ps` (R233). -/
def execAndCmpPs (rd ra rb : VReg) (s : State) : Answer := vvv128 (fun x y => x &&& y) rd ra rb s

/-- `and_cmp_pd` (R233). -/
def execAndCmpPd (rd ra rb : VReg) (s : State) : Answer := vvv128 (fun x y => x &&& y) rd ra rb s

/-- `or_cmp_pi32` (R234). -/
def execOrCmpPi32 (rd ra rb : VReg) (s : State) : Answer := vvv128 (fun x y => x ||| y) rd ra rb s

/-- `or_cmp_pi64` (R234). -/
def execOrCmpPi64 (rd ra rb : VReg) (s : State) : Answer := vvv128 (fun x y => x ||| y) rd ra rb s

/-- `or_cmp_ps` (R234). -/
def execOrCmpPs (rd ra rb : VReg) (s : State) : Answer := vvv128 (fun x y => x ||| y) rd ra rb s

/-- `or_cmp_pd` (R234). -/
def execOrCmpPd (rd ra rb : VReg) (s : State) : Answer := vvv128 (fun x y => x ||| y) rd ra rb s

/-- `xor_cmp_pi32` (R235). -/
def execXorCmpPi32 (rd ra rb : VReg) (s : State) : Answer := vvv128 (fun x y => x ^^^ y) rd ra rb s

/-- `xor_cmp_pi64` (R235). -/
def execXorCmpPi64 (rd ra rb : VReg) (s : State) : Answer := vvv128 (fun x y => x ^^^ y) rd ra rb s

/-- `xor_cmp_ps` (R235). -/
def execXorCmpPs (rd ra rb : VReg) (s : State) : Answer := vvv128 (fun x y => x ^^^ y) rd ra rb s

/-- `xor_cmp_pd` (R235). -/
def execXorCmpPd (rd ra rb : VReg) (s : State) : Answer := vvv128 (fun x y => x ^^^ y) rd ra rb s

/-- `cmpeq_cmp_pi32` (R236). -/
def execCmpeqCmpPi32 (rd ra rb : VReg) (s : State) : Answer := vvv128 (fun x y => ~~~(x ^^^ y)) rd ra rb s

/-- `cmpeq_cmp_pi64` (R236). -/
def execCmpeqCmpPi64 (rd ra rb : VReg) (s : State) : Answer := vvv128 (fun x y => ~~~(x ^^^ y)) rd ra rb s

/-- `cmpeq_cmp_ps` (R236). -/
def execCmpeqCmpPs (rd ra rb : VReg) (s : State) : Answer := vvv128 (fun x y => ~~~(x ^^^ y)) rd ra rb s

/-- `cmpeq_cmp_pd` (R236). -/
def execCmpeqCmpPd (rd ra rb : VReg) (s : State) : Answer := vvv128 (fun x y => ~~~(x ^^^ y)) rd ra rb s

/-- `andnot_cmp_pi32` (R239). -/
def execAndnotCmpPi32 (rd ra rb : VReg) (s : State) : Answer := vvv128 (fun x y => ~~~x &&& y) rd ra rb s

/-- `andnot_cmp_pi64` (R239). -/
def execAndnotCmpPi64 (rd ra rb : VReg) (s : State) : Answer := vvv128 (fun x y => ~~~x &&& y) rd ra rb s

/-- `andnot_cmp_ps` (R239). -/
def execAndnotCmpPs (rd ra rb : VReg) (s : State) : Answer := vvv128 (fun x y => ~~~x &&& y) rd ra rb s

/-- `andnot_cmp_pd` (R239). -/
def execAndnotCmpPd (rd ra rb : VReg) (s : State) : Answer := vvv128 (fun x y => ~~~x &&& y) rd ra rb s

/-- `not_cmp_pi32` (R237). -/
def execNotCmpPi32 (rd ra : VReg) (s : State) : Answer := vv128 (fun x => ~~~x) rd ra s

/-- `not_cmp_pi64` (R237). -/
def execNotCmpPi64 (rd ra : VReg) (s : State) : Answer := vv128 (fun x => ~~~x) rd ra s

/-- `not_cmp_ps` (R237). -/
def execNotCmpPs (rd ra : VReg) (s : State) : Answer := vv128 (fun x => ~~~x) rd ra s

/-- `not_cmp_pd` (R237). -/
def execNotCmpPd (rd ra : VReg) (s : State) : Answer := vv128 (fun x => ~~~x) rd ra s

/-! ### Mask conversions -/

/-- `cvtcmp_pi32_pi64` (R240). -/
def execCvtcmpPi32Pi64 (rd ra : VReg) (s : State) : Answer := vvWiden (fun x => x ++ x) rd ra s

/-- `cvtcmp_pi32_ps` (R242). -/
def execCvtcmpPi32Ps (rd ra : VReg) (s : State) : Answer := vv128 (fun x => x) rd ra s

/-- `cvtcmp_pi32_pd` (R240). -/
def execCvtcmpPi32Pd (rd ra : VReg) (s : State) : Answer := vvWiden (fun x => x ++ x) rd ra s

/-- `cvtcmp_pi64_pi32` (R241). -/
def execCvtcmpPi64Pi32 (rd ra : VReg) (s : State) : Answer := vvNarrow low32 rd ra s

/-- `cvtcmp_pi64_ps` (R241). -/
def execCvtcmpPi64Ps (rd ra : VReg) (s : State) : Answer := vvNarrow low32 rd ra s

/-- `cvtcmp_pi64_pd` (R242). -/
def execCvtcmpPi64Pd (rd ra : VReg) (s : State) : Answer := vv128 (fun x => x) rd ra s

/-- `cvtcmp_ps_pi32` (R242). -/
def execCvtcmpPsPi32 (rd ra : VReg) (s : State) : Answer := vv128 (fun x => x) rd ra s

/-- `cvtcmp_ps_pi64` (R240). -/
def execCvtcmpPsPi64 (rd ra : VReg) (s : State) : Answer := vvWiden (fun x => x ++ x) rd ra s

/-- `cvtcmp_ps_pd` (R240). -/
def execCvtcmpPsPd (rd ra : VReg) (s : State) : Answer := vvWiden (fun x => x ++ x) rd ra s

/-- `cvtcmp_pd_pi32` (R241). -/
def execCvtcmpPdPi32 (rd ra : VReg) (s : State) : Answer := vvNarrow low32 rd ra s

/-- `cvtcmp_pd_pi64` (R242). -/
def execCvtcmpPdPi64 (rd ra : VReg) (s : State) : Answer := vv128 (fun x => x) rd ra s

/-- `cvtcmp_pd_ps` (R241). -/
def execCvtcmpPdPs (rd ra : VReg) (s : State) : Answer := vvNarrow low32 rd ra s

end Sys2Proof.Machine
end

