-- ==== Sys2Proof/Machine/Convert.lean ====
section
/-!
DEFINITION. Value conversions (49_convert.md), with the lane placement of R280.
-/

namespace Sys2Proof.Machine

/-- The lane function of the float to integer converts (R287): `f2i` with the open value of this instruction and lane. -/
def toIntLane (p : Params) (op : BitVec 8) (k k2 : Kind) (rnd : Rounding) {W : Nat} (WD : Nat) (b : BitVec W) : BitVec WD :=
  f2i rnd WD (Config.cvtOutOfRange p op k k2 WD b) b

/-! ### Integer to integer, integer to float, float to integer to nearest, float to float (R281 to R291, R294, R295) -/

/-- `cvt_pi32_pi64` (R281). -/
def execCvtPi32Pi64 (rd ra : VReg) (s : State) : Answer := vvWiden (fun x => x.signExtend 64) rd ra s

/-- `cvt_pi32_ps` (R283). -/
def execCvtPi32Ps (rd ra : VReg) (s : State) : Answer := vv32 (fun x => i2f 32 x.toInt) rd ra s

/-- `cvt_pi32_pd` (R284). -/
def execCvtPi32Pd (rd ra : VReg) (s : State) : Answer := vvWiden (fun x => i2f 64 x.toInt) rd ra s

/-- `cvt_pi64_pi32` (R282). -/
def execCvtPi64Pi32 (rd ra : VReg) (s : State) : Answer := vvNarrow low32 rd ra s

/-- `cvt_pi64_ps` (R285). -/
def execCvtPi64Ps (rd ra : VReg) (s : State) : Answer := vvNarrow (fun x => i2f 32 x.toInt) rd ra s

/-- `cvt_pi64_pd` (R286). -/
def execCvtPi64Pd (rd ra : VReg) (s : State) : Answer := vv64 (fun x => i2f 64 x.toInt) rd ra s

/-- `cvt_ps_pi32` (R288). -/
def execCvtPsPi32 (rd ra : VReg) (s : State) : Answer := vv32 (toIntLane s.params 0xA0 .ps .pi32 .rne 32) rd ra s

/-- `cvt_ps_pi64` (R289). -/
def execCvtPsPi64 (rd ra : VReg) (s : State) : Answer := vvWiden (toIntLane s.params 0xA0 .ps .pi64 .rne 64) rd ra s

/-- `cvt_ps_pd` (R294). -/
def execCvtPsPd (rd ra : VReg) (s : State) : Answer :=
  vvWiden (fun x => f2f 64 (nanDraw 64 s.params 0xA0 .ps [x]) x) rd ra s

/-- `cvt_pd_pi32` (R290). -/
def execCvtPdPi32 (rd ra : VReg) (s : State) : Answer := vvNarrow (toIntLane s.params 0xA0 .pd .pi32 .rne 32) rd ra s

/-- `cvt_pd_pi64` (R291). -/
def execCvtPdPi64 (rd ra : VReg) (s : State) : Answer := vv64 (toIntLane s.params 0xA0 .pd .pi64 .rne 64) rd ra s

/-- `cvt_pd_ps` (R295). -/
def execCvtPdPs (rd ra : VReg) (s : State) : Answer :=
  vvNarrow (fun x => f2f 32 (nanDraw 32 s.params 0xA0 .pd [x]) x) rd ra s

/-! ### Float to integer, toward zero -/

/-- `cvtt_ps_pi32` (R292). -/
def execCvttPsPi32 (rd ra : VReg) (s : State) : Answer := vv32 (toIntLane s.params 0xA1 .ps .pi32 .trunc 32) rd ra s

/-- `cvtt_ps_pi64` (R292). -/
def execCvttPsPi64 (rd ra : VReg) (s : State) : Answer :=
  vvWiden (toIntLane s.params 0xA1 .ps .pi64 .trunc 64) rd ra s

/-- `cvtt_pd_pi32` (R292). -/
def execCvttPdPi32 (rd ra : VReg) (s : State) : Answer :=
  vvNarrow (toIntLane s.params 0xA1 .pd .pi32 .trunc 32) rd ra s

/-- `cvtt_pd_pi64` (R292). -/
def execCvttPdPi64 (rd ra : VReg) (s : State) : Answer := vv64 (toIntLane s.params 0xA1 .pd .pi64 .trunc 64) rd ra s

/-! ### Float to integer, toward minus infinity -/

/-- `cvtf_ps_pi32` (R293). -/
def execCvtfPsPi32 (rd ra : VReg) (s : State) : Answer := vv32 (toIntLane s.params 0xA2 .ps .pi32 .floor 32) rd ra s

/-- `cvtf_ps_pi64` (R293). -/
def execCvtfPsPi64 (rd ra : VReg) (s : State) : Answer :=
  vvWiden (toIntLane s.params 0xA2 .ps .pi64 .floor 64) rd ra s

/-- `cvtf_pd_pi32` (R293). -/
def execCvtfPdPi32 (rd ra : VReg) (s : State) : Answer :=
  vvNarrow (toIntLane s.params 0xA2 .pd .pi32 .floor 32) rd ra s

/-- `cvtf_pd_pi64` (R293). -/
def execCvtfPdPi64 (rd ra : VReg) (s : State) : Answer := vv64 (toIntLane s.params 0xA2 .pd .pi64 .floor 64) rd ra s

end Sys2Proof.Machine
end

