-- ==== Sys2Proof/Machine/Shift.lean ====
section
/-!
DEFINITION. Shifts (46_shift.md), each lane within itself.
-/

namespace Sys2Proof.Machine

/-- A vector shift of one lane: `shift` by a count in 0 .. W-1, else `ShiftOutOfRange`; no bit of the count is masked off
(R215, R216). -/
def shiftLane (p : Params) (op : BitVec 8) (k : Kind) {W : Nat} (shift : BitVec W → Nat → BitVec W) (a b : BitVec W) :
    BitVec W :=
  if b.toNat ≤ W - 1 then shift a b.toNat else Config.shiftOutOfRange p op k a b

/-- Left shift: zeros enter at bit 0 (R211, R217). -/
def shiftLeft {W : Nat} (a : BitVec W) (n : Nat) : BitVec W := a <<< n

/-- Logical right shift: zeros enter at bit W-1 (R212, R218). -/
def shiftRightLogical {W : Nat} (a : BitVec W) (n : Nat) : BitVec W := a >>> n

/-- Arithmetic right shift: copies of bit W-1 enter at the top (R213, R219). -/
def shiftRightArith {W : Nat} (a : BitVec W) (n : Nat) : BitVec W := a.sshiftRight n

/-! ### Shift by immediate -/

/-- `sl_imm_pi32` (R211). -/
def execSlImmPi32 (rd ra : VReg) (imm8 : Byte) (s : State) : Answer := vv32 (fun a => shiftLeft a imm8.toNat) rd ra s

/-- `sl_imm_pi64` (R211). -/
def execSlImmPi64 (rd ra : VReg) (imm8 : Byte) (s : State) : Answer := vv64 (fun a => shiftLeft a imm8.toNat) rd ra s

/-- `srl_imm_pi32` (R212). -/
def execSrlImmPi32 (rd ra : VReg) (imm8 : Byte) (s : State) : Answer :=
  vv32 (fun a => shiftRightLogical a imm8.toNat) rd ra s

/-- `srl_imm_pi64` (R212). -/
def execSrlImmPi64 (rd ra : VReg) (imm8 : Byte) (s : State) : Answer :=
  vv64 (fun a => shiftRightLogical a imm8.toNat) rd ra s

/-- `sra_imm_pi32` (R213). -/
def execSraImmPi32 (rd ra : VReg) (imm8 : Byte) (s : State) : Answer :=
  vv32 (fun a => shiftRightArith a imm8.toNat) rd ra s

/-- `sra_imm_pi64` (R213). -/
def execSraImmPi64 (rd ra : VReg) (imm8 : Byte) (s : State) : Answer :=
  vv64 (fun a => shiftRightArith a imm8.toNat) rd ra s

/-! ### Shift by vector amount -/

/-- `sl_pi32` (R217). -/
def execSlPi32 (rd ra rb : VReg) (s : State) : Answer := vvv32 (shiftLane s.params 0x63 .pi32 shiftLeft) rd ra rb s

/-- `sl_pi64` (R217). -/
def execSlPi64 (rd ra rb : VReg) (s : State) : Answer := vvv64 (shiftLane s.params 0x63 .pi64 shiftLeft) rd ra rb s

/-- `srl_pi32` (R218). -/
def execSrlPi32 (rd ra rb : VReg) (s : State) : Answer :=
  vvv32 (shiftLane s.params 0x64 .pi32 shiftRightLogical) rd ra rb s

/-- `srl_pi64` (R218). -/
def execSrlPi64 (rd ra rb : VReg) (s : State) : Answer :=
  vvv64 (shiftLane s.params 0x64 .pi64 shiftRightLogical) rd ra rb s

/-- `sra_pi32` (R219). -/
def execSraPi32 (rd ra rb : VReg) (s : State) : Answer :=
  vvv32 (shiftLane s.params 0x65 .pi32 shiftRightArith) rd ra rb s

/-- `sra_pi64` (R219). -/
def execSraPi64 (rd ra rb : VReg) (s : State) : Answer :=
  vvv64 (shiftLane s.params 0x65 .pi64 shiftRightArith) rd ra rb s

end Sys2Proof.Machine
end

