-- ==== Sys2Proof/Machine/Shuffle.lean ====
section
/-!
DEFINITION. Lane shuffles (42_shuffle.md). Every backend gives these lanes (R149).
-/

namespace Sys2Proof.Machine

/-- `shuffle_pi32` (R141). -/
def execShufflePi32 (rd ra : VReg) (imm8 : Byte) (s : State) : Answer :=
  doneV s rd (lanes32 fun i => lane 32 (readV s ra) (selector4 imm8 i))

/-- `shuffle_pi64` (R142). -/
def execShufflePi64 (rd ra : VReg) (imm8 : Byte) (s : State) : Answer :=
  doneV s rd (lanes64 fun i => lane 64 (readV s ra) (selector2 imm8 i))

/-- `shuffle_ps` (R141). -/
def execShufflePs (rd ra : VReg) (imm8 : Byte) (s : State) : Answer :=
  doneV s rd (lanes32 fun i => lane 32 (readV s ra) (selector4 imm8 i))

/-- `shuffle_pd` (R142). -/
def execShufflePd (rd ra : VReg) (imm8 : Byte) (s : State) : Answer :=
  doneV s rd (lanes64 fun i => lane 64 (readV s ra) (selector2 imm8 i))

end Sys2Proof.Machine
end

