-- ==== Sys2Proof/Machine/System.lean ====
section
/-!
DEFINITION. halt, set, get, setlane, load, store and debug equality (40_system_set_get_mem.md).
-/

namespace Sys2Proof.Machine

/-! ### System -/

/-- `halt`: the run ends; `pc` is left at the next instruction (R100). -/
def execHalt (s : State) : Answer := .next (advance { s with rs := .halted })

/-! ### Set -/

/-- `setzero_pi32` (R101). -/
def execSetzeroPi32 (rd : VReg) (s : State) : Answer := doneV s rd 0

/-- `setzero_pi64` (R101). -/
def execSetzeroPi64 (rd : VReg) (s : State) : Answer := doneV s rd 0

/-- `setzero_ps` (R101). -/
def execSetzeroPs (rd : VReg) (s : State) : Answer := doneV s rd 0

/-- `setzero_pd` (R101). -/
def execSetzeroPd (rd : VReg) (s : State) : Answer := doneV s rd 0

/-- `set1_pi32` (R102). -/
def execSet1Pi32 (rd : VReg) (ra : SReg) (s : State) : Answer := doneV s rd (lanes32 fun _ => low32 (readS s ra))

/-- `set1_pi64` (R102). -/
def execSet1Pi64 (rd : VReg) (ra : SReg) (s : State) : Answer := doneV s rd (lanes64 fun _ => readS s ra)

/-- `set1_ps` (R102). -/
def execSet1Ps (rd : VReg) (ra : SReg) (s : State) : Answer := doneV s rd (lanes32 fun _ => low32 (readS s ra))

/-- `set1_pd` (R102). -/
def execSet1Pd (rd : VReg) (ra : SReg) (s : State) : Answer := doneV s rd (lanes64 fun _ => readS s ra)

/-- `set_pi32` (R103). -/
def execSetPi32 (rd : VReg) (ra rb rc re : SReg) (s : State) : Answer :=
  doneV s rd (pack32 (low32 (readS s ra)) (low32 (readS s rb)) (low32 (readS s rc)) (low32 (readS s re)))

/-- `set_pi64` (R103). -/
def execSetPi64 (rd : VReg) (ra rb : SReg) (s : State) : Answer := doneV s rd (pack64 (readS s ra) (readS s rb))

/-- `set_ps` (R103). -/
def execSetPs (rd : VReg) (ra rb rc re : SReg) (s : State) : Answer :=
  doneV s rd (pack32 (low32 (readS s ra)) (low32 (readS s rb)) (low32 (readS s rc)) (low32 (readS s re)))

/-- `set_pd` (R103). -/
def execSetPd (rd : VReg) (ra rb : SReg) (s : State) : Answer := doneV s rd (pack64 (readS s ra) (readS s rb))

/-- `set_from_u32_pi32` (R104). -/
def execSetFromU32Pi32 (rd : VReg) (ra rb rc re : SReg) (s : State) : Answer :=
  doneV s rd (pack32 (low32 (readS s ra)) (low32 (readS s rb)) (low32 (readS s rc)) (low32 (readS s re)))

/-- `set_from_u64_pi64` (R104). -/
def execSetFromU64Pi64 (rd : VReg) (ra rb : SReg) (s : State) : Answer :=
  doneV s rd (pack64 (readS s ra) (readS s rb))

/-- `set_from_u32_ps` (R104). -/
def execSetFromU32Ps (rd : VReg) (ra rb rc re : SReg) (s : State) : Answer :=
  doneV s rd (pack32 (low32 (readS s ra)) (low32 (readS s rb)) (low32 (readS s rc)) (low32 (readS s re)))

/-- `set_from_u64_pd` (R104). -/
def execSetFromU64Pd (rd : VReg) (ra rb : SReg) (s : State) : Answer := doneV s rd (pack64 (readS s ra) (readS s rb))

/-- The lane `set_mask` makes of a scalar register: true when any of its 64 bits is set (R105). -/
def maskOf (W : Nat) (s : State) (r : SReg) : BitVec W := maskLane W (truth (readS s r))

/-- `set_mask_pi32` (R105). -/
def execSetMaskPi32 (rd : VReg) (ra rb rc re : SReg) (s : State) : Answer :=
  doneV s rd (pack32 (maskOf 32 s ra) (maskOf 32 s rb) (maskOf 32 s rc) (maskOf 32 s re))

/-- `set_mask_pi64` (R105). -/
def execSetMaskPi64 (rd : VReg) (ra rb : SReg) (s : State) : Answer :=
  doneV s rd (pack64 (maskOf 64 s ra) (maskOf 64 s rb))

/-- `set_mask_ps` (R105). -/
def execSetMaskPs (rd : VReg) (ra rb rc re : SReg) (s : State) : Answer :=
  doneV s rd (pack32 (maskOf 32 s ra) (maskOf 32 s rb) (maskOf 32 s rc) (maskOf 32 s re))

/-- `set_mask_pd` (R105). -/
def execSetMaskPd (rd : VReg) (ra rb : SReg) (s : State) : Answer :=
  doneV s rd (pack64 (maskOf 64 s ra) (maskOf 64 s rb))

/-! ### Get and setlane -/

/-- `get_<i>_pi32` (R106). -/
def execGetPi32 (rd : SReg) (ra : VReg) (imm8 : Byte) (s : State) : Answer :=
  doneS s rd (sext64 (lane 32 (readV s ra) imm8.toNat))

/-- `get_<i>_pi64` (R106). -/
def execGetPi64 (rd : SReg) (ra : VReg) (imm8 : Byte) (s : State) : Answer :=
  doneS s rd (lane 64 (readV s ra) imm8.toNat)

/-- `get_<i>_ps` (R107). -/
def execGetPs (rd : SReg) (ra : VReg) (imm8 : Byte) (s : State) : Answer :=
  doneS s rd (zext64 (lane 32 (readV s ra) imm8.toNat))

/-- `get_<i>_pd` (R107). -/
def execGetPd (rd : SReg) (ra : VReg) (imm8 : Byte) (s : State) : Answer :=
  doneS s rd (lane 64 (readV s ra) imm8.toNat)

/-- `setlane_<i>_pi32` (R108). -/
def execSetlanePi32 (rd ra : VReg) (rb : SReg) (imm8 : Byte) (s : State) : Answer :=
  doneV s rd (setLane32 (readV s ra) imm8.toNat (low32 (readS s rb)))

/-- `setlane_<i>_pi64` (R108). -/
def execSetlanePi64 (rd ra : VReg) (rb : SReg) (imm8 : Byte) (s : State) : Answer :=
  doneV s rd (setLane64 (readV s ra) imm8.toNat (readS s rb))

/-- `setlane_<i>_ps` (R108). -/
def execSetlanePs (rd ra : VReg) (rb : SReg) (imm8 : Byte) (s : State) : Answer :=
  doneV s rd (setLane32 (readV s ra) imm8.toNat (low32 (readS s rb)))

/-- `setlane_<i>_pd` (R108). -/
def execSetlanePd (rd ra : VReg) (rb : SReg) (imm8 : Byte) (s : State) : Answer :=
  doneV s rd (setLane64 (readV s ra) imm8.toNat (readS s rb))

/-! ### Load and store -/

/-- `load_unaligned_pi32` (R115). -/
def execLoadUnalignedPi32 (rd : VReg) (ra : SReg) (imm8 : Byte) (s : State) : Answer :=
  loadVec s rd (effectiveAddress (readS s ra) imm8)

/-- `load_unaligned_pi64` (R115). -/
def execLoadUnalignedPi64 (rd : VReg) (ra : SReg) (imm8 : Byte) (s : State) : Answer :=
  loadVec s rd (effectiveAddress (readS s ra) imm8)

/-- `load_unaligned_ps` (R115). -/
def execLoadUnalignedPs (rd : VReg) (ra : SReg) (imm8 : Byte) (s : State) : Answer :=
  loadVec s rd (effectiveAddress (readS s ra) imm8)

/-- `load_unaligned_pd` (R115). -/
def execLoadUnalignedPd (rd : VReg) (ra : SReg) (imm8 : Byte) (s : State) : Answer :=
  loadVec s rd (effectiveAddress (readS s ra) imm8)

/-- `store_unaligned_pi32` (R116). -/
def execStoreUnalignedPi32 (rb : VReg) (ra : SReg) (imm8 : Byte) (s : State) : Answer :=
  storeVec s (effectiveAddress (readS s ra) imm8) (readV s rb)

/-- `store_unaligned_pi64` (R116). -/
def execStoreUnalignedPi64 (rb : VReg) (ra : SReg) (imm8 : Byte) (s : State) : Answer :=
  storeVec s (effectiveAddress (readS s ra) imm8) (readV s rb)

/-- `store_unaligned_ps` (R116). -/
def execStoreUnalignedPs (rb : VReg) (ra : SReg) (imm8 : Byte) (s : State) : Answer :=
  storeVec s (effectiveAddress (readS s ra) imm8) (readV s rb)

/-- `store_unaligned_pd` (R116). -/
def execStoreUnalignedPd (rb : VReg) (ra : SReg) (imm8 : Byte) (s : State) : Answer :=
  storeVec s (effectiveAddress (readS s ra) imm8) (readV s rb)

/-! ### Debug equality -/

/-- `debug_eq_pi32` (R117). -/
def execDebugEqPi32 (rd : SReg) (ra rb : VReg) (s : State) : Answer := doneS s rd (ofTruth (readV s ra == readV s rb))

/-- `debug_eq_pi64` (R117). -/
def execDebugEqPi64 (rd : SReg) (ra rb : VReg) (s : State) : Answer := doneS s rd (ofTruth (readV s ra == readV s rb))

/-- `debug_eq_ps` (R117). -/
def execDebugEqPs (rd : SReg) (ra rb : VReg) (s : State) : Answer := doneS s rd (ofTruth (readV s ra == readV s rb))

/-- `debug_eq_pd` (R117). -/
def execDebugEqPd (rd : SReg) (ra rb : VReg) (s : State) : Answer := doneS s rd (ofTruth (readV s ra == readV s rb))

end Sys2Proof.Machine
end

