-- ==== Sys2Proof/Machine/Dispatch.lean ====
section
/-!
DEFINITION. The meaning of every instruction, one arm per constructor.
-/

namespace Sys2Proof.Machine

/-- The meaning of an instruction at a state (R344: source reads, result, destination write, `pc`). -/
def exec (i : Instr) (s : State) : Host.Outcome State Fault Refusal :=
  match i with
  | .setzeroPi32 rd => Sys2Proof.Machine.execSetzeroPi32 rd s
  | .setzeroPi64 rd => Sys2Proof.Machine.execSetzeroPi64 rd s
  | .setzeroPs rd => Sys2Proof.Machine.execSetzeroPs rd s
  | .setzeroPd rd => Sys2Proof.Machine.execSetzeroPd rd s
  | .set1Pi32 rd ra => Sys2Proof.Machine.execSet1Pi32 rd ra s
  | .set1Pi64 rd ra => Sys2Proof.Machine.execSet1Pi64 rd ra s
  | .set1Ps rd ra => Sys2Proof.Machine.execSet1Ps rd ra s
  | .set1Pd rd ra => Sys2Proof.Machine.execSet1Pd rd ra s
  | .setPi32 rd ra rb rc re => Sys2Proof.Machine.execSetPi32 rd ra rb rc re s
  | .setPi64 rd ra rb => Sys2Proof.Machine.execSetPi64 rd ra rb s
  | .setPs rd ra rb rc re => Sys2Proof.Machine.execSetPs rd ra rb rc re s
  | .setPd rd ra rb => Sys2Proof.Machine.execSetPd rd ra rb s
  | .setFromU32Pi32 rd ra rb rc re => Sys2Proof.Machine.execSetFromU32Pi32 rd ra rb rc re s
  | .setFromU64Pi64 rd ra rb => Sys2Proof.Machine.execSetFromU64Pi64 rd ra rb s
  | .setFromU32Ps rd ra rb rc re => Sys2Proof.Machine.execSetFromU32Ps rd ra rb rc re s
  | .setFromU64Pd rd ra rb => Sys2Proof.Machine.execSetFromU64Pd rd ra rb s
  | .setMaskPi32 rd ra rb rc re => Sys2Proof.Machine.execSetMaskPi32 rd ra rb rc re s
  | .setMaskPi64 rd ra rb => Sys2Proof.Machine.execSetMaskPi64 rd ra rb s
  | .setMaskPs rd ra rb rc re => Sys2Proof.Machine.execSetMaskPs rd ra rb rc re s
  | .setMaskPd rd ra rb => Sys2Proof.Machine.execSetMaskPd rd ra rb s
  | .getPi32 rd ra imm8 => Sys2Proof.Machine.execGetPi32 rd ra imm8 s
  | .getPi64 rd ra imm8 => Sys2Proof.Machine.execGetPi64 rd ra imm8 s
  | .getPs rd ra imm8 => Sys2Proof.Machine.execGetPs rd ra imm8 s
  | .getPd rd ra imm8 => Sys2Proof.Machine.execGetPd rd ra imm8 s
  | .setlanePi32 rd ra rb imm8 => Sys2Proof.Machine.execSetlanePi32 rd ra rb imm8 s
  | .setlanePi64 rd ra rb imm8 => Sys2Proof.Machine.execSetlanePi64 rd ra rb imm8 s
  | .setlanePs rd ra rb imm8 => Sys2Proof.Machine.execSetlanePs rd ra rb imm8 s
  | .setlanePd rd ra rb imm8 => Sys2Proof.Machine.execSetlanePd rd ra rb imm8 s
  | .loadUnalignedPi32 rd ra imm8 => Sys2Proof.Machine.execLoadUnalignedPi32 rd ra imm8 s
  | .loadUnalignedPi64 rd ra imm8 => Sys2Proof.Machine.execLoadUnalignedPi64 rd ra imm8 s
  | .loadUnalignedPs rd ra imm8 => Sys2Proof.Machine.execLoadUnalignedPs rd ra imm8 s
  | .loadUnalignedPd rd ra imm8 => Sys2Proof.Machine.execLoadUnalignedPd rd ra imm8 s
  | .storeUnalignedPi32 rb ra imm8 => Sys2Proof.Machine.execStoreUnalignedPi32 rb ra imm8 s
  | .storeUnalignedPi64 rb ra imm8 => Sys2Proof.Machine.execStoreUnalignedPi64 rb ra imm8 s
  | .storeUnalignedPs rb ra imm8 => Sys2Proof.Machine.execStoreUnalignedPs rb ra imm8 s
  | .storeUnalignedPd rb ra imm8 => Sys2Proof.Machine.execStoreUnalignedPd rb ra imm8 s
  | .debugEqPi32 rd ra rb => Sys2Proof.Machine.execDebugEqPi32 rd ra rb s
  | .debugEqPi64 rd ra rb => Sys2Proof.Machine.execDebugEqPi64 rd ra rb s
  | .debugEqPs rd ra rb => Sys2Proof.Machine.execDebugEqPs rd ra rb s
  | .debugEqPd rd ra rb => Sys2Proof.Machine.execDebugEqPd rd ra rb s
  | .bitcastPi32Pi64 rd ra => Sys2Proof.Machine.execBitcastPi32Pi64 rd ra s
  | .bitcastPi32Ps rd ra => Sys2Proof.Machine.execBitcastPi32Ps rd ra s
  | .bitcastPi32Pd rd ra => Sys2Proof.Machine.execBitcastPi32Pd rd ra s
  | .bitcastPi64Pi32 rd ra => Sys2Proof.Machine.execBitcastPi64Pi32 rd ra s
  | .bitcastPi64Ps rd ra => Sys2Proof.Machine.execBitcastPi64Ps rd ra s
  | .bitcastPi64Pd rd ra => Sys2Proof.Machine.execBitcastPi64Pd rd ra s
  | .bitcastPsPi32 rd ra => Sys2Proof.Machine.execBitcastPsPi32 rd ra s
  | .bitcastPsPi64 rd ra => Sys2Proof.Machine.execBitcastPsPi64 rd ra s
  | .bitcastPsPd rd ra => Sys2Proof.Machine.execBitcastPsPd rd ra s
  | .bitcastPdPi32 rd ra => Sys2Proof.Machine.execBitcastPdPi32 rd ra s
  | .bitcastPdPi64 rd ra => Sys2Proof.Machine.execBitcastPdPi64 rd ra s
  | .bitcastPdPs rd ra => Sys2Proof.Machine.execBitcastPdPs rd ra s
  | .bitcastCmpPi32Pi64 rd ra => Sys2Proof.Machine.execBitcastCmpPi32Pi64 rd ra s
  | .bitcastCmpPi32Ps rd ra => Sys2Proof.Machine.execBitcastCmpPi32Ps rd ra s
  | .bitcastCmpPi32Pd rd ra => Sys2Proof.Machine.execBitcastCmpPi32Pd rd ra s
  | .bitcastCmpPi64Pi32 rd ra => Sys2Proof.Machine.execBitcastCmpPi64Pi32 rd ra s
  | .bitcastCmpPi64Ps rd ra => Sys2Proof.Machine.execBitcastCmpPi64Ps rd ra s
  | .bitcastCmpPi64Pd rd ra => Sys2Proof.Machine.execBitcastCmpPi64Pd rd ra s
  | .bitcastCmpPsPi32 rd ra => Sys2Proof.Machine.execBitcastCmpPsPi32 rd ra s
  | .bitcastCmpPsPi64 rd ra => Sys2Proof.Machine.execBitcastCmpPsPi64 rd ra s
  | .bitcastCmpPsPd rd ra => Sys2Proof.Machine.execBitcastCmpPsPd rd ra s
  | .bitcastCmpPdPi32 rd ra => Sys2Proof.Machine.execBitcastCmpPdPi32 rd ra s
  | .bitcastCmpPdPi64 rd ra => Sys2Proof.Machine.execBitcastCmpPdPi64 rd ra s
  | .bitcastCmpPdPs rd ra => Sys2Proof.Machine.execBitcastCmpPdPs rd ra s
  | .sbitcastU32I32 rd ra => Sys2Proof.Machine.execSbitcastU32I32 rd ra s
  | .sbitcastU32F32 rd ra => Sys2Proof.Machine.execSbitcastU32F32 rd ra s
  | .sbitcastI32U32 rd ra => Sys2Proof.Machine.execSbitcastI32U32 rd ra s
  | .sbitcastI32F32 rd ra => Sys2Proof.Machine.execSbitcastI32F32 rd ra s
  | .sbitcastF32U32 rd ra => Sys2Proof.Machine.execSbitcastF32U32 rd ra s
  | .sbitcastF32I32 rd ra => Sys2Proof.Machine.execSbitcastF32I32 rd ra s
  | .sbitcastU64I64 rd ra => Sys2Proof.Machine.execSbitcastU64I64 rd ra s
  | .sbitcastU64F64 rd ra => Sys2Proof.Machine.execSbitcastU64F64 rd ra s
  | .sbitcastI64U64 rd ra => Sys2Proof.Machine.execSbitcastI64U64 rd ra s
  | .sbitcastI64F64 rd ra => Sys2Proof.Machine.execSbitcastI64F64 rd ra s
  | .sbitcastF64U64 rd ra => Sys2Proof.Machine.execSbitcastF64U64 rd ra s
  | .sbitcastF64I64 rd ra => Sys2Proof.Machine.execSbitcastF64I64 rd ra s
  | .shufflePi32 rd ra imm8 => Sys2Proof.Machine.execShufflePi32 rd ra imm8 s
  | .shufflePi64 rd ra imm8 => Sys2Proof.Machine.execShufflePi64 rd ra imm8 s
  | .shufflePs rd ra imm8 => Sys2Proof.Machine.execShufflePs rd ra imm8 s
  | .shufflePd rd ra imm8 => Sys2Proof.Machine.execShufflePd rd ra imm8 s
  | .addPi32 rd ra rb => Sys2Proof.Machine.execAddPi32 rd ra rb s
  | .addPi64 rd ra rb => Sys2Proof.Machine.execAddPi64 rd ra rb s
  | .addPs rd ra rb => Sys2Proof.Machine.execAddPs rd ra rb s
  | .addPd rd ra rb => Sys2Proof.Machine.execAddPd rd ra rb s
  | .subPi32 rd ra rb => Sys2Proof.Machine.execSubPi32 rd ra rb s
  | .subPi64 rd ra rb => Sys2Proof.Machine.execSubPi64 rd ra rb s
  | .subPs rd ra rb => Sys2Proof.Machine.execSubPs rd ra rb s
  | .subPd rd ra rb => Sys2Proof.Machine.execSubPd rd ra rb s
  | .mulPi32 rd ra rb => Sys2Proof.Machine.execMulPi32 rd ra rb s
  | .mulPi64 rd ra rb => Sys2Proof.Machine.execMulPi64 rd ra rb s
  | .mulPs rd ra rb => Sys2Proof.Machine.execMulPs rd ra rb s
  | .mulPd rd ra rb => Sys2Proof.Machine.execMulPd rd ra rb s
  | .divPi32 rd ra rb => Sys2Proof.Machine.execDivPi32 rd ra rb s
  | .divPi64 rd ra rb => Sys2Proof.Machine.execDivPi64 rd ra rb s
  | .divPs rd ra rb => Sys2Proof.Machine.execDivPs rd ra rb s
  | .divPd rd ra rb => Sys2Proof.Machine.execDivPd rd ra rb s
  | .mulAddPs rd ra rb rc => Sys2Proof.Machine.execMulAddPs rd ra rb rc s
  | .mulAddPd rd ra rb rc => Sys2Proof.Machine.execMulAddPd rd ra rb rc s
  | .safedivPi32 rd ra rb => Sys2Proof.Machine.execSafedivPi32 rd ra rb s
  | .safedivPi64 rd ra rb => Sys2Proof.Machine.execSafedivPi64 rd ra rb s
  | .safedivPs rd ra rb => Sys2Proof.Machine.execSafedivPs rd ra rb s
  | .safedivPd rd ra rb => Sys2Proof.Machine.execSafedivPd rd ra rb s
  | .negPi32 rd ra => Sys2Proof.Machine.execNegPi32 rd ra s
  | .negPi64 rd ra => Sys2Proof.Machine.execNegPi64 rd ra s
  | .negPs rd ra => Sys2Proof.Machine.execNegPs rd ra s
  | .negPd rd ra => Sys2Proof.Machine.execNegPd rd ra s
  | .absPi32 rd ra => Sys2Proof.Machine.execAbsPi32 rd ra s
  | .absPi64 rd ra => Sys2Proof.Machine.execAbsPi64 rd ra s
  | .absPs rd ra => Sys2Proof.Machine.execAbsPs rd ra s
  | .absPd rd ra => Sys2Proof.Machine.execAbsPd rd ra s
  | .andPi32 rd ra rb => Sys2Proof.Machine.execAndPi32 rd ra rb s
  | .andPi64 rd ra rb => Sys2Proof.Machine.execAndPi64 rd ra rb s
  | .andPs rd ra rb => Sys2Proof.Machine.execAndPs rd ra rb s
  | .andPd rd ra rb => Sys2Proof.Machine.execAndPd rd ra rb s
  | .andnotPi32 rd ra rb => Sys2Proof.Machine.execAndnotPi32 rd ra rb s
  | .andnotPi64 rd ra rb => Sys2Proof.Machine.execAndnotPi64 rd ra rb s
  | .andnotPs rd ra rb => Sys2Proof.Machine.execAndnotPs rd ra rb s
  | .andnotPd rd ra rb => Sys2Proof.Machine.execAndnotPd rd ra rb s
  | .orPi32 rd ra rb => Sys2Proof.Machine.execOrPi32 rd ra rb s
  | .orPi64 rd ra rb => Sys2Proof.Machine.execOrPi64 rd ra rb s
  | .orPs rd ra rb => Sys2Proof.Machine.execOrPs rd ra rb s
  | .orPd rd ra rb => Sys2Proof.Machine.execOrPd rd ra rb s
  | .xorPi32 rd ra rb => Sys2Proof.Machine.execXorPi32 rd ra rb s
  | .xorPi64 rd ra rb => Sys2Proof.Machine.execXorPi64 rd ra rb s
  | .xorPs rd ra rb => Sys2Proof.Machine.execXorPs rd ra rb s
  | .xorPd rd ra rb => Sys2Proof.Machine.execXorPd rd ra rb s
  | .notPi32 rd ra => Sys2Proof.Machine.execNotPi32 rd ra s
  | .notPi64 rd ra => Sys2Proof.Machine.execNotPi64 rd ra s
  | .notPs rd ra => Sys2Proof.Machine.execNotPs rd ra s
  | .notPd rd ra => Sys2Proof.Machine.execNotPd rd ra s
  | .slImmPi32 rd ra imm8 => Sys2Proof.Machine.execSlImmPi32 rd ra imm8 s
  | .slImmPi64 rd ra imm8 => Sys2Proof.Machine.execSlImmPi64 rd ra imm8 s
  | .srlImmPi32 rd ra imm8 => Sys2Proof.Machine.execSrlImmPi32 rd ra imm8 s
  | .srlImmPi64 rd ra imm8 => Sys2Proof.Machine.execSrlImmPi64 rd ra imm8 s
  | .sraImmPi32 rd ra imm8 => Sys2Proof.Machine.execSraImmPi32 rd ra imm8 s
  | .sraImmPi64 rd ra imm8 => Sys2Proof.Machine.execSraImmPi64 rd ra imm8 s
  | .slPi32 rd ra rb => Sys2Proof.Machine.execSlPi32 rd ra rb s
  | .slPi64 rd ra rb => Sys2Proof.Machine.execSlPi64 rd ra rb s
  | .srlPi32 rd ra rb => Sys2Proof.Machine.execSrlPi32 rd ra rb s
  | .srlPi64 rd ra rb => Sys2Proof.Machine.execSrlPi64 rd ra rb s
  | .sraPi32 rd ra rb => Sys2Proof.Machine.execSraPi32 rd ra rb s
  | .sraPi64 rd ra rb => Sys2Proof.Machine.execSraPi64 rd ra rb s
  | .cmpltPi32 rd ra rb => Sys2Proof.Machine.execCmpltPi32 rd ra rb s
  | .cmpltPi64 rd ra rb => Sys2Proof.Machine.execCmpltPi64 rd ra rb s
  | .cmpltPs rd ra rb => Sys2Proof.Machine.execCmpltPs rd ra rb s
  | .cmpltPd rd ra rb => Sys2Proof.Machine.execCmpltPd rd ra rb s
  | .cmplePi32 rd ra rb => Sys2Proof.Machine.execCmplePi32 rd ra rb s
  | .cmplePi64 rd ra rb => Sys2Proof.Machine.execCmplePi64 rd ra rb s
  | .cmplePs rd ra rb => Sys2Proof.Machine.execCmplePs rd ra rb s
  | .cmplePd rd ra rb => Sys2Proof.Machine.execCmplePd rd ra rb s
  | .cmpeqPi32 rd ra rb => Sys2Proof.Machine.execCmpeqPi32 rd ra rb s
  | .cmpeqPi64 rd ra rb => Sys2Proof.Machine.execCmpeqPi64 rd ra rb s
  | .cmpeqPs rd ra rb => Sys2Proof.Machine.execCmpeqPs rd ra rb s
  | .cmpeqPd rd ra rb => Sys2Proof.Machine.execCmpeqPd rd ra rb s
  | .cmpneqPi32 rd ra rb => Sys2Proof.Machine.execCmpneqPi32 rd ra rb s
  | .cmpneqPi64 rd ra rb => Sys2Proof.Machine.execCmpneqPi64 rd ra rb s
  | .cmpneqPs rd ra rb => Sys2Proof.Machine.execCmpneqPs rd ra rb s
  | .cmpneqPd rd ra rb => Sys2Proof.Machine.execCmpneqPd rd ra rb s
  | .cmpgePi32 rd ra rb => Sys2Proof.Machine.execCmpgePi32 rd ra rb s
  | .cmpgePi64 rd ra rb => Sys2Proof.Machine.execCmpgePi64 rd ra rb s
  | .cmpgePs rd ra rb => Sys2Proof.Machine.execCmpgePs rd ra rb s
  | .cmpgePd rd ra rb => Sys2Proof.Machine.execCmpgePd rd ra rb s
  | .cmpgtPi32 rd ra rb => Sys2Proof.Machine.execCmpgtPi32 rd ra rb s
  | .cmpgtPi64 rd ra rb => Sys2Proof.Machine.execCmpgtPi64 rd ra rb s
  | .cmpgtPs rd ra rb => Sys2Proof.Machine.execCmpgtPs rd ra rb s
  | .cmpgtPd rd ra rb => Sys2Proof.Machine.execCmpgtPd rd ra rb s
  | .andCmpPi32 rd ra rb => Sys2Proof.Machine.execAndCmpPi32 rd ra rb s
  | .andCmpPi64 rd ra rb => Sys2Proof.Machine.execAndCmpPi64 rd ra rb s
  | .andCmpPs rd ra rb => Sys2Proof.Machine.execAndCmpPs rd ra rb s
  | .andCmpPd rd ra rb => Sys2Proof.Machine.execAndCmpPd rd ra rb s
  | .orCmpPi32 rd ra rb => Sys2Proof.Machine.execOrCmpPi32 rd ra rb s
  | .orCmpPi64 rd ra rb => Sys2Proof.Machine.execOrCmpPi64 rd ra rb s
  | .orCmpPs rd ra rb => Sys2Proof.Machine.execOrCmpPs rd ra rb s
  | .orCmpPd rd ra rb => Sys2Proof.Machine.execOrCmpPd rd ra rb s
  | .xorCmpPi32 rd ra rb => Sys2Proof.Machine.execXorCmpPi32 rd ra rb s
  | .xorCmpPi64 rd ra rb => Sys2Proof.Machine.execXorCmpPi64 rd ra rb s
  | .xorCmpPs rd ra rb => Sys2Proof.Machine.execXorCmpPs rd ra rb s
  | .xorCmpPd rd ra rb => Sys2Proof.Machine.execXorCmpPd rd ra rb s
  | .cmpeqCmpPi32 rd ra rb => Sys2Proof.Machine.execCmpeqCmpPi32 rd ra rb s
  | .cmpeqCmpPi64 rd ra rb => Sys2Proof.Machine.execCmpeqCmpPi64 rd ra rb s
  | .cmpeqCmpPs rd ra rb => Sys2Proof.Machine.execCmpeqCmpPs rd ra rb s
  | .cmpeqCmpPd rd ra rb => Sys2Proof.Machine.execCmpeqCmpPd rd ra rb s
  | .notCmpPi32 rd ra => Sys2Proof.Machine.execNotCmpPi32 rd ra s
  | .notCmpPi64 rd ra => Sys2Proof.Machine.execNotCmpPi64 rd ra s
  | .notCmpPs rd ra => Sys2Proof.Machine.execNotCmpPs rd ra s
  | .notCmpPd rd ra => Sys2Proof.Machine.execNotCmpPd rd ra s
  | .cvtcmpPi32Pi64 rd ra => Sys2Proof.Machine.execCvtcmpPi32Pi64 rd ra s
  | .cvtcmpPi32Ps rd ra => Sys2Proof.Machine.execCvtcmpPi32Ps rd ra s
  | .cvtcmpPi32Pd rd ra => Sys2Proof.Machine.execCvtcmpPi32Pd rd ra s
  | .cvtcmpPi64Pi32 rd ra => Sys2Proof.Machine.execCvtcmpPi64Pi32 rd ra s
  | .cvtcmpPi64Ps rd ra => Sys2Proof.Machine.execCvtcmpPi64Ps rd ra s
  | .cvtcmpPi64Pd rd ra => Sys2Proof.Machine.execCvtcmpPi64Pd rd ra s
  | .cvtcmpPsPi32 rd ra => Sys2Proof.Machine.execCvtcmpPsPi32 rd ra s
  | .cvtcmpPsPi64 rd ra => Sys2Proof.Machine.execCvtcmpPsPi64 rd ra s
  | .cvtcmpPsPd rd ra => Sys2Proof.Machine.execCvtcmpPsPd rd ra s
  | .cvtcmpPdPi32 rd ra => Sys2Proof.Machine.execCvtcmpPdPi32 rd ra s
  | .cvtcmpPdPi64 rd ra => Sys2Proof.Machine.execCvtcmpPdPi64 rd ra s
  | .cvtcmpPdPs rd ra => Sys2Proof.Machine.execCvtcmpPdPs rd ra s
  | .andnotCmpPi32 rd ra rb => Sys2Proof.Machine.execAndnotCmpPi32 rd ra rb s
  | .andnotCmpPi64 rd ra rb => Sys2Proof.Machine.execAndnotCmpPi64 rd ra rb s
  | .andnotCmpPs rd ra rb => Sys2Proof.Machine.execAndnotCmpPs rd ra rb s
  | .andnotCmpPd rd ra rb => Sys2Proof.Machine.execAndnotCmpPd rd ra rb s
  | .choosePi32 rd ra rb rc => Sys2Proof.Machine.execChoosePi32 rd ra rb rc s
  | .choosePi64 rd ra rb rc => Sys2Proof.Machine.execChoosePi64 rd ra rb rc s
  | .choosePs rd ra rb rc => Sys2Proof.Machine.execChoosePs rd ra rb rc s
  | .choosePd rd ra rb rc => Sys2Proof.Machine.execChoosePd rd ra rb rc s
  | .chooseElseZeroPi32 rd ra rb => Sys2Proof.Machine.execChooseElseZeroPi32 rd ra rb s
  | .chooseElseZeroPi64 rd ra rb => Sys2Proof.Machine.execChooseElseZeroPi64 rd ra rb s
  | .chooseElseZeroPs rd ra rb => Sys2Proof.Machine.execChooseElseZeroPs rd ra rb s
  | .chooseElseZeroPd rd ra rb => Sys2Proof.Machine.execChooseElseZeroPd rd ra rb s
  | .minPi32 rd ra rb => Sys2Proof.Machine.execMinPi32 rd ra rb s
  | .minPi64 rd ra rb => Sys2Proof.Machine.execMinPi64 rd ra rb s
  | .maxPi32 rd ra rb => Sys2Proof.Machine.execMaxPi32 rd ra rb s
  | .maxPi64 rd ra rb => Sys2Proof.Machine.execMaxPi64 rd ra rb s
  | .minFastPs rd ra rb => Sys2Proof.Machine.execMinFastPs rd ra rb s
  | .minFastPd rd ra rb => Sys2Proof.Machine.execMinFastPd rd ra rb s
  | .maxFastPs rd ra rb => Sys2Proof.Machine.execMaxFastPs rd ra rb s
  | .maxFastPd rd ra rb => Sys2Proof.Machine.execMaxFastPd rd ra rb s
  | .constrainPi32 rd ra rb rc => Sys2Proof.Machine.execConstrainPi32 rd ra rb rc s
  | .constrainPi64 rd ra rb rc => Sys2Proof.Machine.execConstrainPi64 rd ra rb rc s
  | .constrainPs rd ra rb rc => Sys2Proof.Machine.execConstrainPs rd ra rb rc s
  | .constrainPd rd ra rb rc => Sys2Proof.Machine.execConstrainPd rd ra rb rc s
  | .removeSignedZeroPs rd ra => Sys2Proof.Machine.execRemoveSignedZeroPs rd ra s
  | .removeSignedZeroPd rd ra => Sys2Proof.Machine.execRemoveSignedZeroPd rd ra s
  | .cvtPi32Pi64 rd ra => Sys2Proof.Machine.execCvtPi32Pi64 rd ra s
  | .cvtPi32Ps rd ra => Sys2Proof.Machine.execCvtPi32Ps rd ra s
  | .cvtPi32Pd rd ra => Sys2Proof.Machine.execCvtPi32Pd rd ra s
  | .cvtPi64Pi32 rd ra => Sys2Proof.Machine.execCvtPi64Pi32 rd ra s
  | .cvtPi64Ps rd ra => Sys2Proof.Machine.execCvtPi64Ps rd ra s
  | .cvtPi64Pd rd ra => Sys2Proof.Machine.execCvtPi64Pd rd ra s
  | .cvtPsPi32 rd ra => Sys2Proof.Machine.execCvtPsPi32 rd ra s
  | .cvtPsPi64 rd ra => Sys2Proof.Machine.execCvtPsPi64 rd ra s
  | .cvtPsPd rd ra => Sys2Proof.Machine.execCvtPsPd rd ra s
  | .cvtPdPi32 rd ra => Sys2Proof.Machine.execCvtPdPi32 rd ra s
  | .cvtPdPi64 rd ra => Sys2Proof.Machine.execCvtPdPi64 rd ra s
  | .cvtPdPs rd ra => Sys2Proof.Machine.execCvtPdPs rd ra s
  | .cvttPsPi32 rd ra => Sys2Proof.Machine.execCvttPsPi32 rd ra s
  | .cvttPsPi64 rd ra => Sys2Proof.Machine.execCvttPsPi64 rd ra s
  | .cvttPdPi32 rd ra => Sys2Proof.Machine.execCvttPdPi32 rd ra s
  | .cvttPdPi64 rd ra => Sys2Proof.Machine.execCvttPdPi64 rd ra s
  | .cvtfPsPi32 rd ra => Sys2Proof.Machine.execCvtfPsPi32 rd ra s
  | .cvtfPsPi64 rd ra => Sys2Proof.Machine.execCvtfPsPi64 rd ra s
  | .cvtfPdPi32 rd ra => Sys2Proof.Machine.execCvtfPdPi32 rd ra s
  | .cvtfPdPi64 rd ra => Sys2Proof.Machine.execCvtfPdPi64 rd ra s
  | .halt => Sys2Proof.Machine.execHalt s

end Sys2Proof.Machine
end

