-- ==== Sys2Proof/Machine/Sequencer.lean ====
section
/-!
DEFINITION. The sequencer (R43, R60, R313, R344): fetch, decode, execute, and where the fetch finds its word.
-/

namespace Sys2Proof.Machine

/-- The fetch at `pc`, its two checks in the order of their priority (R43, R313). -/
def fetch (s : State) : Except ArchFault Word :=
  if s.pc.toNat % 4 ≠ 0 then .error (.fetchMisaligned s.pc)
  else if s.params.imemSize ≤ s.pc.toNat + 3 then .error (.fetchFault s.pc)
  else .ok (fetchWord s)

/-- Decode and execute a fetched word; an illegal word raises IllegalInstruction and is not executed (R60, R66). -/
def executeWord (w : Word) (s : State) : Answer :=
  match decode w with
  | .ok i => exec i s
  | .error _ => .next (raise s (.illegalInstruction w))

/-- One step of a running block (R313, R344). -/
def runningStep (s : State) : Answer :=
  match fetch s with
  | .ok w => executeWord w (afterFetch s)
  | .error f => .next (raise s f)

/-- One step: "in any other run state it does nothing" (R344). -/
def sequencerStep (s : State) : Answer :=
  match s.rs with
  | .running => runningStep s
  | .halted => .next s
  | .faulted => .next s

/-- The state with an instruction written where the next fetch looks, and running: what the host's writes of instruction
memory and its START bring about (R325, R342, log 11). -/
def placeInstruction (s : State) (bs : List Byte) : State :=
  { s with imem := writeCells s.imem (placedCells s bs), rs := .running }

end Sys2Proof.Machine
end

