-- ==== Sys2Proof/Machine/Step.lean ====
section
/-!
DEFINITION. The step of the machine and the placing of one instruction for it, both by the sequencer of Sequencer.lean.
-/

namespace Sys2Proof.Machine

/-- One step of the block (R344). -/
def step (s : State) : Host.Outcome State Fault Refusal := sequencerStep s

/-- The state whose next step runs the instruction with the bits `w` (log 11). -/
def State.withFetchWord (s : State) (nbits w : Nat) : State := placeInstruction s (tableBytes nbits w)

end Sys2Proof.Machine
end

