-- ==== Sys2Proof/Machine/Constructions.lean ====
section
/-!
DEFINITION. The reference constructions of the SSE2 backend and of extract and reinsert (R176, R181, R214, R232), on
register values. They are notes of the spec without architectural effect (R8, log 20): `exec` does not use them.
-/

namespace Sys2Proof.Machine

/-- The sign of a lane, spread over the lane (R176, R214). -/
def signMask {W : Nat} (a : BitVec W) : BitVec W := maskLane W a.msb

/-- `umul32x32_64`: the 32-bit lanes 0 and 2 multiplied as unsigned numbers into two 64-bit lanes (R176). -/
def umul32x32to64 (a b : Vec) : Vec :=
  lanes64 fun j => zext64 (lane 32 a (2 * j)) * zext64 (lane 32 b (2 * j))

/-- `a` with lanes 1 and 3 moved to lanes 0 and 2 (R176). -/
def oddToEven (a : Vec) : Vec := map64 (fun x => x >>> 32) a

/-- `mul_pi32` on SSE2: absolute values, two unsigned multiplies, the low halves back in lane order, the sign (R176). -/
def mulPi32Sse2 (a b : Vec) : Vec :=
  let sa := map32 signMask a
  let sb := map32 signMask b
  let absA := zip32 (fun x sg => (x ^^^ sg) - sg) a sa
  let absB := zip32 (fun x sg => (x ^^^ sg) - sg) b sb
  let even := umul32x32to64 absA absB
  let odd := umul32x32to64 (oddToEven absA) (oddToEven absB)
  let p := pack32 (lane 32 odd 2) (lane 32 even 2) (lane 32 odd 0) (lane 32 even 0)
  zip32 (fun x sg => (x ^^^ sg) - sg) p (sa ^^^ sb)

/-- `TOP(n)`: entry `n` of the sign mask table, its `n` most significant bits set (R214). -/
def topMask (n : Nat) : BitVec 64 := if n = 0 then 0 else BitVec.allOnes 64 <<< (64 - n)

/-- `sra_imm_pi64` on SSE2: a logical shift, then the vacated bits take the sign (R214). -/
def sraImmPi64Sse2 (a : Vec) (n : Nat) : Vec := map64 (fun x => x >>> n ||| (signMask x &&& topMask n)) a

/-- `cmpeq_pi64` on SSE2: a 32-bit compare, the halves exchanged by selector 0xB1, and both halves ANDed (R232). -/
def cmpeqPi64Sse2 (a b : Vec) : Vec :=
  let e := zip32 (fun x y => maskLane 32 (x = y)) a b
  let sw := lanes32 fun i => lane 32 e (selector4 0xB1 i)
  e &&& sw

/-- Extract, compute, reinsert on 64-bit lanes: each lane through one scalar unit, in any order (R181, R232). -/
def viaScalar64 (unit : BitVec 64 → BitVec 64 → BitVec 64) (a b : Vec) : Vec :=
  setLane64 (setLane64 0 0 (unit (lane 64 a 0) (lane 64 b 0))) 1 (unit (lane 64 a 1) (lane 64 b 1))

/-- Extract, compute, reinsert on 32-bit lanes (R181). -/
def viaScalar32 (unit : BitVec 32 → BitVec 32 → BitVec 32) (a b : Vec) : Vec :=
  [0, 1, 2, 3].foldl (fun r i => setLane32 r i (unit (lane 32 a i) (lane 32 b i))) 0

end Sys2Proof.Machine
end

