-- ==== Sys2Proof/Machine/HostPort.lean ====
section
/-!
DEFINITION. The host port (R26, R30, R325, R326): what the host can read, the moves it can make on the block, and reset as
one of them. The host is the other agent (R343); it is not part of `step` (log 12).
-/

namespace Sys2Proof.Machine

/-! ### The host registers, readable at any time (R26) -/

/-- `STATUS.RS` (R26). -/
def runStateCode : RunState → BitVec 2
  | .halted => 0
  | .running => 1
  | .faulted => 2

/-- `STATUS.BK` (R26). -/
def backendCode : Backend → BitVec 2
  | .generic => 0
  | .sse2 => 1
  | .neon => 2

/-- `H0 STATUS`: `RS` in bits 1:0, `BK` in bits 3:2, zero above (R26). -/
def statusWord (s : State) : Word := (0 : BitVec 28) ++ backendCode s.params.backend ++ runStateCode s.rs

/-- `H1 CAUSE`: the code in bits 3:0, zero above (R26). -/
def causeWord (s : State) : Word := s.cause.setWidth 32

/-- `H2 FPC` (R26). -/
def fpcWord (s : State) : Word := s.fpc

/-- `H3 FINFO` (R26). -/
def finfoWord (s : State) : Word := s.finfo

/-! ### Reads allowed only while `RS` is not RUNNING (R325). `none`: the port gives the read no answer. -/

/-- What the host reads by a move that R325 allows only while `RS` is not RUNNING. -/
def whenIdle {α : Type} (s : State) (x : α) : Option α := if s.rs = .running then none else some x

/-- Read `pc` (R325). -/
def hostReadPc (s : State) : Option Word := whenIdle s s.pc

/-- Read a vector register (R325). -/
def hostReadV (s : State) (r : VReg) : Option Vec := whenIdle s (readV s r)

/-- Read a scalar register (R325). -/
def hostReadS (s : State) (r : SReg) : Option Scalar := whenIdle s (readS s r)

/-- Whether `n` bytes from `addr` lie in a memory of `size` bytes (R325). -/
def rangeInside (size addr n : Nat) : Bool := addr + n ≤ size

/-- Read `n` bytes of data memory (R325). -/
def hostReadData (s : State) (addr n : Nat) : Option (List Byte) :=
  if rangeInside s.params.memSize addr n then
    whenIdle s (seenBytes .hostData s.dmem s.draws ((List.range n).map fun k => addr + k))
  else none

/-- Read `n` bytes of instruction memory (R325). -/
def hostReadInstr (s : State) (addr n : Nat) : Option (List Byte) :=
  if rangeInside s.params.imemSize addr n then
    whenIdle s (seenBytes .hostInstr s.imem s.draws ((List.range n).map fun k => addr + k))
  else none

/-! ### The moves that change state (R325) -/

/-- The moves of R325 that can change state. -/
inductive HostMove where
  /-- Write `pc`. -/
  | writePc (x : Word)
  /-- Write a vector register. -/
  | writeV (r : VReg) (x : Vec)
  /-- Write a scalar register. -/
  | writeS (r : SReg) (x : Scalar)
  /-- Write a byte range of data memory. -/
  | writeData (addr : Nat) (bytes : List Byte)
  /-- Write a byte range of instruction memory. -/
  | writeInstr (addr : Nat) (bytes : List Byte)
  /-- START. -/
  | start
  /-- Assert reset. -/
  | assertReset
  deriving DecidableEq, Repr

/-- The cells of a byte range. -/
def rangeCells (addr : Nat) (bytes : List Byte) : List Host.Cell :=
  ((List.range bytes.length).map fun k => addr + k).zip bytes

/-- The effect of a write that R325 allows only while `RS` is not RUNNING; the spec gives it no meaning in a run (I12). -/
def hostWrite (s s' : State) : Answer := if s.rs = .running then .refused .hostMoveWhileRunning else .next s'

/-- The stores an interrupted run could have made: those it has made, and the one of the instruction in progress, which
"may or may not have completed" (R326, log 13). -/
def interruptedStores (s : State) : List Word :=
  match sequencerStep s with
  | .next t => t.runStores
  | _ => s.runStores

/-- Whether one of the stores at the given effective addresses writes address `a` (R44). -/
def storesReach (stores : List Word) (a : Nat) : Bool := stores.any fun ea => (accessAddrs ea 16).contains a

/-- The memory without the bytes that the given stores wrote: those become unwritten again. -/
def forgetStores (m : Memory) (stores : List Word) : Memory := m.filter fun c => !storesReach stores c.1

/-- Reset (R31, R326): the sequencer state takes its reset values, the registers hold fresh unconstrained values, and
both memories are kept, but for the data bytes that an interrupted run could have written (log 13). -/
def hostReset (s : State) : State where
  v := Vector.ofFn (Config.powerOnV s.draws)
  s := Vector.ofFn (Config.powerOnS s.draws)
  pc := 0
  rs := .halted
  cause := 0
  fpc := 0
  finfo := 0
  dmem := if s.rs = .running then forgetStores s.dmem (interruptedStores s) else s.dmem
  imem := s.imem
  params := s.params
  draws := s.draws + 1
  runStores := []

/-- The effect of a host move (R325). START begins a run, which has made no store yet (log 21). A byte range that leaves
the memory is turned away without any effect (I18, log 19). -/
def hostMove (m : HostMove) (s : State) : Answer :=
  match m with
  | .writePc x => hostWrite s { s with pc := x }
  | .writeV r x => hostWrite s (writeV s r x)
  | .writeS r x => hostWrite s (writeS s r x)
  | .writeData addr bytes =>
    hostWrite s (if rangeInside s.params.memSize addr bytes.length then
      { s with dmem := writeCells s.dmem (rangeCells addr bytes) } else s)
  | .writeInstr addr bytes =>
    hostWrite s (if rangeInside s.params.imemSize addr bytes.length then
      { s with imem := writeCells s.imem (rangeCells addr bytes) } else s)
  | .start => .next (if s.rs = .halted then { s with rs := .running, runStores := [] } else s)
  | .assertReset => .next (hostReset s)

/-! ### The aggregate views of a vector register (R30), high lane first -/

/-- The record `(i3, i2, i1, i0)`. -/
structure AggregatePi32 where
  i3 : Int
  i2 : Int
  i1 : Int
  i0 : Int
  deriving DecidableEq, Repr

/-- The record `(l1, l0)`. -/
structure AggregatePi64 where
  l1 : Int
  l0 : Int
  deriving DecidableEq, Repr

/-- The record `(f3, f2, f1, f0)` of binary32 patterns. -/
structure AggregatePs where
  f3 : BitVec 32
  f2 : BitVec 32
  f1 : BitVec 32
  f0 : BitVec 32
  deriving DecidableEq, Repr

/-- The record `(d1, d0)` of binary64 patterns. -/
structure AggregatePd where
  d1 : BitVec 64
  d0 : BitVec 64
  deriving DecidableEq, Repr

/-- The mask counterpart of the 4-lane records. -/
structure AggregateMask4 where
  b3 : Option Bool
  b2 : Option Bool
  b1 : Option Bool
  b0 : Option Bool
  deriving DecidableEq, Repr

/-- The mask counterpart of the 2-lane records. -/
structure AggregateMask2 where
  b1 : Option Bool
  b0 : Option Bool
  deriving DecidableEq, Repr

/-- `get_generic_pi32` (R30). -/
def getGenericPi32 (x : Vec) : AggregatePi32 :=
  ⟨(lane 32 x 3).toInt, (lane 32 x 2).toInt, (lane 32 x 1).toInt, (lane 32 x 0).toInt⟩

/-- `get_generic_pi64` (R30). -/
def getGenericPi64 (x : Vec) : AggregatePi64 := ⟨(lane 64 x 1).toInt, (lane 64 x 0).toInt⟩

/-- `get_generic_ps` (R30). -/
def getGenericPs (x : Vec) : AggregatePs := ⟨lane 32 x 3, lane 32 x 2, lane 32 x 1, lane 32 x 0⟩

/-- `get_generic_pd` (R30). -/
def getGenericPd (x : Vec) : AggregatePd := ⟨lane 64 x 1, lane 64 x 0⟩

/-- A mask lane as a boolean, "without meaning" (`none`) where it is not a valid mask lane (R30). -/
def maskTruth {W : Nat} (m : BitVec W) : Option Bool :=
  if m = BitVec.allOnes W then some true else if m = 0 then some false else none

/-- The mask view at 32-bit lanes (R30). -/
def getGenericMask4 (x : Vec) : AggregateMask4 :=
  ⟨maskTruth (lane 32 x 3), maskTruth (lane 32 x 2), maskTruth (lane 32 x 1), maskTruth (lane 32 x 0)⟩

/-- The mask view at 64-bit lanes (R30). -/
def getGenericMask2 (x : Vec) : AggregateMask2 := ⟨maskTruth (lane 64 x 1), maskTruth (lane 64 x 0)⟩

/-! "and the reverse" (R30): the register value of a record. -/

def ofGenericPi32 (g : AggregatePi32) : Vec :=
  pack32 (BitVec.ofInt 32 g.i3) (BitVec.ofInt 32 g.i2) (BitVec.ofInt 32 g.i1) (BitVec.ofInt 32 g.i0)

def ofGenericPi64 (g : AggregatePi64) : Vec := pack64 (BitVec.ofInt 64 g.l1) (BitVec.ofInt 64 g.l0)

def ofGenericPs (g : AggregatePs) : Vec := pack32 g.f3 g.f2 g.f1 g.f0

def ofGenericPd (g : AggregatePd) : Vec := pack64 g.d1 g.d0

def ofGenericMask4 (b3 b2 b1 b0 : Bool) : Vec :=
  pack32 (maskLane 32 b3) (maskLane 32 b2) (maskLane 32 b1) (maskLane 32 b0)

def ofGenericMask2 (b1 b0 : Bool) : Vec := pack64 (maskLane 64 b1) (maskLane 64 b0)

end Sys2Proof.Machine
end

