-- ==== Sys2Proof/Machine/ShuffleUnit.lean ====
section
/-!
DEFINITION. The shuffle unit of a NEON-backend block: its micro-operations (R145 to R147) and the 256-entry dispatch
table (43_shuffle_neon_table.md). It is a reference construction; `shuffle` itself is rule R141 (R149, log 20).
-/

namespace Sys2Proof.Machine

/-- A 4-lane value of the shuffle unit, `l0` lane 0 (R146). The lanes' type is left open, so that an entry of the table
can be evaluated on lane numbers as well as on lanes. -/
structure Quad (α : Type) where
  l0 : α
  l1 : α
  l2 : α
  l3 : α
  deriving DecidableEq, Repr

/-- Lane `n` of a 4-lane value. -/
def Quad.lane {α : Type} (a : Quad α) (n : Nat) : α :=
  match n with
  | 0 => a.l0
  | 1 => a.l1
  | 2 => a.l2
  | _ => a.l3

/-- `a` with lane `d` replaced. -/
def Quad.replace {α : Type} (a : Quad α) (d : Nat) (y : α) : Quad α :=
  match d with
  | 0 => { a with l0 := y }
  | 1 => { a with l1 := y }
  | 2 => { a with l2 := y }
  | _ => { a with l3 := y }

/-- Lane `n` of the 8-lane sequence `a`, `b` (R146, `ext`). -/
def Quad.laneOfTwo {α : Type} (a b : Quad α) (n : Nat) : α := if n < 4 then a.lane n else b.lane (n - 4)

/-- An operand of a micro-operation: the source or an earlier temporary (R160). -/
inductive MicroSrc where
  | x
  | t1
  | t2
  deriving DecidableEq, Repr

/-- The micro-operations of R146. -/
inductive MicroOp where
  | dup (a : MicroSrc) (n : Nat)
  | copy (a : MicroSrc) (d : Nat) (b : MicroSrc) (j : Nat)
  | ext (a b : MicroSrc) (n : Nat)
  | zip1 (a b : MicroSrc)
  | zip2 (a b : MicroSrc)
  | uzp1 (a b : MicroSrc)
  | uzp2 (a b : MicroSrc)
  | trn1 (a b : MicroSrc)
  | trn2 (a b : MicroSrc)
  | rev64 (a : MicroSrc)
  deriving DecidableEq, Repr

/-- The value an operand names, among the source and the temporaries produced so far, first to last. -/
def MicroSrc.value {α : Type} (x : Quad α) (ts : List (Quad α)) : MicroSrc → Quad α
  | .x => x
  | .t1 => ts.getD 0 x
  | .t2 => ts.getD 1 x

/-- The result of a micro-operation (R146). -/
def MicroOp.result {α : Type} (x : Quad α) (ts : List (Quad α)) : MicroOp → Quad α
  | .dup a n => let a := a.value x ts; ⟨a.lane n, a.lane n, a.lane n, a.lane n⟩
  | .copy a d b j => (a.value x ts).replace d ((b.value x ts).lane j)
  | .ext a b n =>
    let a := a.value x ts
    let b := b.value x ts
    ⟨a.laneOfTwo b n, a.laneOfTwo b (n + 1), a.laneOfTwo b (n + 2), a.laneOfTwo b (n + 3)⟩
  | .zip1 a b => let a := a.value x ts; let b := b.value x ts; ⟨a.l0, b.l0, a.l1, b.l1⟩
  | .zip2 a b => let a := a.value x ts; let b := b.value x ts; ⟨a.l2, b.l2, a.l3, b.l3⟩
  | .uzp1 a b => let a := a.value x ts; let b := b.value x ts; ⟨a.l0, a.l2, b.l0, b.l2⟩
  | .uzp2 a b => let a := a.value x ts; let b := b.value x ts; ⟨a.l1, a.l3, b.l1, b.l3⟩
  | .trn1 a b => let a := a.value x ts; let b := b.value x ts; ⟨a.l0, b.l0, a.l2, b.l2⟩
  | .trn2 a b => let a := a.value x ts; let b := b.value x ts; ⟨a.l1, b.l1, a.l3, b.l3⟩
  | .rev64 a => let a := a.value x ts; ⟨a.l1, a.l0, a.l3, a.l2⟩

/-- An entry of the table run on the source `x`: each micro-operation in order, the last one's value the result; the
empty entry gives `x` itself (R145). -/
def runEntry {α : Type} (x : Quad α) (ts : List (Quad α)) : List MicroOp → Quad α
  | [] => ts.getLastD x
  | op :: ops => runEntry x (ts ++ [op.result x ts]) ops

/-- Entries 0x00 .. 0x0F (R161). -/
def neonTable0 : List (List MicroOp) := [
  [.dup .x 0],
  [.dup .x 0, .copy .t1 0 .x 1],
  [.dup .x 0, .copy .t1 0 .x 2],
  [.dup .x 0, .ext .x .t1 3],
  [.dup .x 0, .copy .t1 1 .x 1],
  [.rev64 .x, .zip1 .t1 .t1],
  [.dup .x 0, .ext .x .t1 2, .copy .t2 1 .x 1],
  [.dup .x 0, .ext .x .t1 3, .copy .t2 1 .x 1],
  [.dup .x 0, .uzp1 .x .t1],
  [.ext .x .x 1, .copy .t1 2 .x 0],
  [.ext .x .x 1, .trn2 .t1 .t1],
  [.dup .x 0, .ext .x .t1 2, .rev64 .t2],
  [.dup .x 0, .copy .t1 1 .x 3],
  [.dup .x 0, .uzp2 .x .t1],
  [.dup .x 0, .ext .x .t1 2],
  [.ext .x .x 1, .zip2 .t1 .t1]]

/-- Entries 0x10 .. 0x1F (R161). -/
def neonTable1 : List (List MicroOp) := [
  [.dup .x 0, .zip1 .x .t1],
  [.copy .x 3 .x 0, .uzp2 .t1 .t1],
  [.dup .x 0, .zip1 .x .t1, .copy .t2 0 .x 2],
  [.ext .x .x 2, .ext .t1 .x 1],
  [.rev64 .x, .zip1 .x .t1],
  [.dup .x 1, .ext .t1 .x 1],
  [.dup .x 1, .uzp1 .x .t1, .ext .t2 .x 1],
  [.dup .x 1, .ext .x .t1 2, .ext .t2 .x 1],
  [.dup .x 0, .zip1 .x .t1, .copy .t2 1 .x 2],
  [.ext .x .x 1, .copy .t1 2 .x 1],
  [.dup .x 2, .ext .t1 .x 1, .copy .t2 2 .x 1],
  [.rev64 .x, .ext .t1 .t1 2],
  [.ext .x .x 3, .zip1 .x .t1],
  [.uzp2 .x .x, .copy .t1 3 .x 0],
  [.rev64 .x, .ext .x .t1 2],
  [.dup .x 3, .ext .t1 .x 1, .copy .t2 2 .x 1]]

/-- Entries 0x20 .. 0x2F (R161). -/
def neonTable2 : List (List MicroOp) := [
  [.dup .x 0, .trn1 .x .t1],
  [.dup .x 0, .trn1 .x .t1, .copy .t2 0 .x 1],
  [.ext .x .x 1, .uzp2 .t1 .t1],
  [.uzp1 .x .x, .ext .x .t1 3],
  [.copy .x 3 .x 0],
  [.copy .x 0 .x 1, .copy .t1 3 .x 0],
  [.copy .x 0 .x 2, .copy .t1 3 .x 0],
  [.copy .x 0 .x 3, .copy .t1 3 .x 0],
  [.ext .x .x 2, .uzp1 .x .t1],
  [.ext .x .x 1, .copy .t1 2 .x 2],
  [.dup .x 2, .ext .t1 .x 1],
  [.dup .x 2, .ext .x .t1 2, .ext .t2 .x 1],
  [.rev64 .x, .ext .t1 .x 1],
  [.ext .x .x 1, .uzp2 .x .t1],
  [.dup .x 0, .ext .x .t1 2, .copy .t2 2 .x 2],
  [.dup .x 3, .ext .t1 .x 1, .copy .t2 2 .x 2]]

/-- Entries 0x30 .. 0x3F (R161). -/
def neonTable3 : List (List MicroOp) := [
  [.dup .x 0, .copy .t1 2 .x 3],
  [.dup .x 0, .trn2 .x .t1],
  [.dup .x 0, .zip2 .x .t1],
  [.dup .x 0, .ext .x .t1 2, .uzp2 .t2 .t2],
  [.copy .x 2 .x 3, .copy .t1 3 .x 0],
  [.ext .x .x 1, .copy .t1 1 .x 1],
  [.dup .x 0, .zip1 .x .t1, .zip2 .x .t2],
  [.uzp2 .x .x, .ext .t1 .x 1],
  [.ext .x .x 1, .copy .t1 0 .x 0],
  [.ext .x .x 1],
  [.ext .x .x 1, .copy .t1 0 .x 2],
  [.ext .x .x 1, .copy .t1 0 .x 3],
  [.dup .x 0, .copy .t1 1 .x 3, .copy .t2 2 .x 3],
  [.ext .x .x 1, .copy .t1 1 .x 3],
  [.ext .x .x 1, .zip2 .x .t1],
  [.dup .x 3, .ext .t1 .x 1]]

/-- Entries 0x40 .. 0x4F (R161). -/
def neonTable4 : List (List MicroOp) := [
  [.dup .x 0, .ext .t1 .x 2],
  [.rev64 .x, .zip1 .t1 .x],
  [.ext .x .x 2, .copy .t1 1 .x 0],
  [.ext .x .x 1, .ext .t1 .x 2],
  [.ext .x .x 2, .ext .t1 .x 2],
  [.dup .x 1, .ext .t1 .x 2],
  [.ext .x .x 2, .copy .t1 1 .x 1],
  [.dup .x 1, .ext .x .t1 1, .ext .t2 .x 2],
  [.zip1 .x .x, .uzp1 .x .t1],
  [.ext .x .x 3, .ext .t1 .x 2],
  [.dup .x 2, .ext .t1 .x 2],
  [.rev64 .x, .ext .t1 .x 2],
  [.ext .x .x 2, .copy .t1 0 .x 0],
  [.ext .x .x 2, .copy .t1 0 .x 1],
  [.ext .x .x 2],
  [.dup .x 3, .ext .t1 .x 2]]

/-- Entries 0x50 .. 0x5F (R161). -/
def neonTable5 : List (List MicroOp) := [
  [.zip1 .x .x],
  [.dup .x 1, .zip1 .t1 .x],
  [.zip1 .x .x, .copy .t1 0 .x 2],
  [.ext .x .x 3, .copy .t1 3 .x 1],
  [.dup .x 1, .zip1 .x .t1],
  [.dup .x 1],
  [.dup .x 1, .copy .t1 0 .x 2],
  [.dup .x 1, .ext .x .t1 3],
  [.dup .x 1, .uzp1 .x .t1],
  [.dup .x 1, .copy .t1 1 .x 2],
  [.copy .x 0 .x 2, .zip1 .t1 .t1],
  [.dup .x 1, .ext .x .t1 2, .rev64 .t2],
  [.zip1 .x .x, .copy .t1 1 .x 3],
  [.dup .x 1, .uzp2 .x .t1],
  [.dup .x 1, .ext .x .t1 2],
  [.ext .x .x 2, .trn2 .t1 .t1]]

/-- Entries 0x60 .. 0x6F (R161). -/
def neonTable6 : List (List MicroOp) := [
  [.zip1 .x .x, .trn1 .x .t1],
  [.ext .x .x 1, .zip1 .t1 .x],
  [.dup .x 2, .zip1 .t1 .x],
  [.dup .x 1, .uzp1 .x .t1, .ext .x .t2 3],
  [.copy .x 3 .x 1],
  [.dup .x 1, .copy .t1 2 .x 2],
  [.copy .x 0 .x 2, .copy .t1 3 .x 1],
  [.copy .x 0 .x 3, .copy .t1 3 .x 1],
  [.copy .x 1 .x 2, .copy .t1 3 .x 1],
  [.dup .x 1, .ext .x .t1 1, .copy .t2 2 .x 2],
  [.dup .x 2, .copy .t1 3 .x 1],
  [.dup .x 2, .ext .x .t1 3, .copy .t2 3 .x 1],
  [.rev64 .x, .ext .t1 .t1 1],
  [.dup .x 1, .ext .x .t1 1, .uzp2 .x .t2],
  [.ext .x .x 2, .copy .t1 2 .x 2],
  [.dup .x 3, .ext .t1 .x 2, .copy .t2 2 .x 2]]

/-- Entries 0x70 .. 0x7F (R161). -/
def neonTable7 : List (List MicroOp) := [
  [.zip1 .x .x, .copy .t1 2 .x 3],
  [.rev64 .x, .copy .t1 3 .x 1],
  [.ext .x .x 2, .zip2 .x .t1],
  [.dup .x 3, .zip1 .t1 .x],
  [.copy .x 2 .x 3, .copy .t1 3 .x 1],
  [.dup .x 1, .trn2 .x .t1],
  [.dup .x 1, .zip2 .x .t1],
  [.ext .x .x 2, .uzp2 .t1 .t1],
  [.ext .x .x 3, .uzp1 .x .t1],
  [.dup .x 1, .ext .x .t1 1],
  [.zip2 .x .x, .copy .t1 3 .x 1],
  [.dup .x 1, .ext .x .t1 1, .copy .t2 0 .x 3],
  [.dup .x 3, .copy .t1 0 .x 0, .copy .t2 3 .x 1],
  [.ext .x .x 2, .uzp2 .x .t1],
  [.ext .x .x 2, .copy .t1 2 .x 3],
  [.dup .x 3, .copy .t1 3 .x 1]]

/-- Entries 0x80 .. 0x8F (R161). -/
def neonTable8 : List (List MicroOp) := [
  [.dup .x 0, .uzp1 .t1 .x],
  [.rev64 .x, .copy .t1 2 .x 0],
  [.ext .x .x 2, .uzp1 .t1 .x],
  [.ext .x .x 3, .copy .t1 2 .x 0],
  [.zip1 .x .x, .uzp1 .t1 .x],
  [.dup .x 1, .uzp1 .t1 .x],
  [.dup .x 1, .ext .x .t1 2, .uzp1 .t2 .x],
  [.ext .x .x 3, .uzp1 .t1 .x],
  [.uzp1 .x .x],
  [.uzp1 .x .x, .copy .t1 0 .x 1],
  [.dup .x 2, .uzp1 .t1 .x],
  [.uzp1 .x .x, .copy .t1 0 .x 3],
  [.uzp1 .x .x, .copy .t1 1 .x 3],
  [.rev64 .x, .uzp2 .x .t1],
  [.ext .x .x 2, .copy .t1 3 .x 2],
  [.dup .x 3, .uzp1 .t1 .x]]

/-- Entries 0x90 .. 0x9F (R161). -/
def neonTable9 : List (List MicroOp) := [
  [.dup .x 0, .ext .t1 .x 3],
  [.dup .x 1, .ext .t1 .x 3],
  [.dup .x 2, .ext .t1 .x 3],
  [.ext .x .x 3],
  [.ext .x .x 1, .zip1 .x .t1],
  [.dup .x 1, .copy .t1 3 .x 2],
  [.dup .x 1, .copy .t1 0 .x 2, .copy .t2 3 .x 2],
  [.ext .x .x 3, .copy .t1 1 .x 1],
  [.dup .x 2, .zip1 .x .t1],
  [.copy .x 0 .x 1, .uzp1 .t1 .t1],
  [.dup .x 2, .copy .t1 2 .x 1],
  [.ext .x .x 3, .copy .t1 1 .x 2],
  [.dup .x 0, .ext .t1 .x 3, .copy .t2 1 .x 3],
  [.uzp2 .x .x, .copy .t1 3 .x 2],
  [.ext .x .x 1, .ext .x .t1 2],
  [.ext .x .x 3, .copy .t1 1 .x 3]]

/-- Entries 0xA0 .. 0xAF (R161). -/
def neonTableA : List (List MicroOp) := [
  [.trn1 .x .x],
  [.rev64 .x, .copy .t1 2 .x 2],
  [.dup .x 2, .trn1 .t1 .x],
  [.ext .x .x 3, .copy .t1 2 .x 2],
  [.copy .x 3 .x 2],
  [.ext .x .x 1, .zip1 .t1 .t1],
  [.dup .x 2, .copy .t1 1 .x 1],
  [.copy .x 0 .x 3, .copy .t1 3 .x 2],
  [.dup .x 2, .uzp1 .x .t1],
  [.dup .x 2, .copy .t1 0 .x 1],
  [.dup .x 2],
  [.dup .x 2, .ext .x .t1 3],
  [.trn1 .x .x, .copy .t1 1 .x 3],
  [.dup .x 2, .uzp2 .x .t1],
  [.dup .x 2, .ext .x .t1 2],
  [.rev64 .x, .zip2 .t1 .t1]]

/-- Entries 0xB0 .. 0xBF (R161). -/
def neonTableB : List (List MicroOp) := [
  [.rev64 .x, .copy .t1 0 .x 0],
  [.rev64 .x],
  [.rev64 .x, .copy .t1 0 .x 2],
  [.dup .x 3, .trn1 .t1 .x],
  [.copy .x 2 .x 3, .copy .t1 3 .x 2],
  [.rev64 .x, .copy .t1 1 .x 1],
  [.ext .x .x 3, .zip2 .x .t1],
  [.dup .x 2, .uzp2 .x .t1, .ext .x .t2 3],
  [.uzp1 .x .x, .copy .t1 2 .x 3],
  [.dup .x 2, .ext .x .t1 1],
  [.dup .x 2, .zip2 .x .t1],
  [.copy .x 0 .x 3, .uzp1 .t1 .t1],
  [.dup .x 3, .copy .t1 0 .x 0, .copy .t2 3 .x 2],
  [.rev64 .x, .copy .t1 1 .x 3],
  [.rev64 .x, .zip2 .x .t1],
  [.dup .x 3, .copy .t1 3 .x 2]]

/-- Entries 0xC0 .. 0xCF (R161). -/
def neonTableC : List (List MicroOp) := [
  [.dup .x 0, .copy .t1 3 .x 3],
  [.dup .x 0, .copy .t1 0 .x 1, .copy .t2 3 .x 3],
  [.dup .x 0, .copy .t1 0 .x 2, .copy .t2 3 .x 3],
  [.dup .x 0, .ext .x .t1 3, .copy .t2 3 .x 3],
  [.copy .x 2 .x 0],
  [.trn2 .x .x, .copy .t1 2 .x 0],
  [.rev64 .x, .ext .t1 .t1 3],
  [.rev64 .x, .ext .x .t1 3],
  [.dup .x 0, .zip2 .t1 .x],
  [.dup .x 0, .zip1 .x .t1, .zip2 .t2 .x],
  [.zip2 .x .x, .copy .t1 2 .x 0],
  [.ext .x .x 1, .zip2 .t1 .x],
  [.copy .x 1 .x 0, .uzp2 .t1 .t1],
  [.uzp2 .x .x, .copy .t1 2 .x 0],
  [.ext .x .x 2, .copy .t1 3 .x 3],
  [.dup .x 3, .copy .t1 2 .x 0]]

/-- Entries 0xD0 .. 0xDF (R161). -/
def neonTableD : List (List MicroOp) := [
  [.dup .x 0, .uzp2 .t1 .x],
  [.uzp2 .x .x, .copy .t1 1 .x 0],
  [.ext .x .x 1, .uzp2 .t1 .x],
  [.ext .x .x 3, .copy .t1 3 .x 3],
  [.copy .x 2 .x 1],
  [.dup .x 1, .uzp2 .t1 .x],
  [.copy .x 0 .x 2, .copy .t1 2 .x 1],
  [.ext .x .x 2, .uzp2 .t1 .x],
  [.rev64 .x, .uzp1 .x .t1],
  [.dup .x 1, .zip2 .t1 .x],
  [.dup .x 2, .uzp2 .t1 .x],
  [.dup .x 1, .ext .x .t1 1, .zip2 .t2 .x],
  [.dup .x 3, .zip1 .x .t1],
  [.uzp2 .x .x],
  [.zip2 .x .x, .uzp2 .t1 .x],
  [.dup .x 3, .uzp2 .t1 .x]]

/-- Entries 0xE0 .. 0xEF (R161). -/
def neonTableE : List (List MicroOp) := [
  [.copy .x 1 .x 0],
  [.copy .x 0 .x 1, .copy .t1 1 .x 0],
  [.copy .x 0 .x 2, .copy .t1 1 .x 0],
  [.copy .x 0 .x 3, .copy .t1 1 .x 0],
  [],
  [.copy .x 0 .x 1],
  [.copy .x 0 .x 2],
  [.copy .x 0 .x 3],
  [.copy .x 1 .x 2],
  [.ext .x .x 3, .zip2 .t1 .x],
  [.dup .x 2, .zip2 .t1 .x],
  [.rev64 .x, .zip2 .t1 .x],
  [.copy .x 1 .x 3],
  [.zip2 .x .x, .uzp2 .x .t1],
  [.ext .x .x 2, .ext .x .t1 2],
  [.dup .x 3, .copy .t1 2 .x 2]]

/-- Entries 0xF0 .. 0xFF (R161). -/
def neonTableF : List (List MicroOp) := [
  [.copy .x 1 .x 0, .copy .t1 2 .x 3],
  [.rev64 .x, .copy .t1 3 .x 3],
  [.zip2 .x .x, .copy .t1 1 .x 0],
  [.dup .x 3, .copy .t1 1 .x 0],
  [.copy .x 2 .x 3],
  [.trn2 .x .x],
  [.zip2 .x .x, .trn2 .t1 .x],
  [.dup .x 3, .trn2 .t1 .x],
  [.dup .x 3, .uzp1 .x .t1],
  [.dup .x 3, .ext .x .t1 1],
  [.zip2 .x .x],
  [.dup .x 3, .zip2 .t1 .x],
  [.dup .x 3, .copy .t1 0 .x 0],
  [.dup .x 3, .uzp2 .x .t1],
  [.dup .x 3, .ext .x .t1 2],
  [.dup .x 3]]

/-- The dispatch table, indexed by `imm8` (R160, R161). -/
def neonTable : List (List MicroOp) :=
  neonTable0 ++ neonTable1 ++ neonTable2 ++ neonTable3 ++ neonTable4 ++ neonTable5 ++ neonTable6 ++ neonTable7 ++
  neonTable8 ++ neonTable9 ++ neonTableA ++ neonTableB ++ neonTableC ++ neonTableD ++ neonTableE ++ neonTableF

/-- The 4-lane shuffle as the shuffle unit computes it (R145). -/
def neonShuffle (x : Vec) (imm8 : Byte) : Vec :=
  let r := runEntry ⟨lane 32 x 0, lane 32 x 1, lane 32 x 2, lane 32 x 3⟩ [] (neonTable.getD imm8.toNat [])
  pack32 r.l3 r.l2 r.l1 r.l0

end Sys2Proof.Machine
end

