-- ==== Sys2Proof/Safety.lean ====
section
/-!
DEFINITION. The terms the claims are stated in: the machine's invariant and how a run ends, what an instruction leaves
unchanged, and the float rules R11 to R17 over the rational numbers, written from the spec beside Machine/Float.lean and
without it but for the fields of a pattern.
-/

namespace Sys2Proof.Machine

/-! ### The machine -/

/-- A byte address of every entry lies below the size of the memory (R41, R42). -/
def Memory.Below (m : Memory) (size : Nat) : Prop := ∀ c ∈ m, c.1 < size

/-- What holds of every state the block and the host can reach: both memories in canonical form and inside their
bounds (R41, R42), legal build parameters (R7), a fault record that holds a fault exactly while FAULTED (R312, R314,
R346), and every byte of a store the run is said to have made is a written byte (R326, log 21). -/
structure State.Inv (s : State) : Prop where
  dataForm : Memory.wf s.dmem = true
  instrForm : Memory.wf s.imem = true
  dataBelow : Memory.Below s.dmem s.params.memSize
  instrBelow : Memory.Below s.imem s.params.imemSize
  legal : s.params.Legal
  noFault : s.rs ≠ .faulted → s.cause = 0 ∧ s.fpc = 0 ∧ s.finfo = 0
  oneFault : s.rs = .faulted → 1 ≤ s.cause.toNat ∧ s.cause.toNat ≤ 4
  fetchInfo : 3 ≤ s.cause.toNat → s.finfo = s.fpc
  storesMade : ∀ ea ∈ s.runStores, ∀ k < 16, (readCell s.dmem ((ea.toNat + k) % 2 ^ 32)).isSome = true

/-- The block has stopped: a run is over (R346). -/
def State.Ended (s : State) : Prop := s.rs ≠ .running

/-- A run that ended without a fault (R314, R346). -/
def State.EndedWell (s : State) : Prop := s.rs = .halted ∧ s.cause = 0

/-! ### Frames -/

/-- What every instruction that writes only registers leaves unchanged: the run state, the fault record, every byte of
both memories, the build parameters, the stores noted for the run (log 21); and `pc` advances (R25). -/
structure KeepsMachine (s t : State) : Prop where
  pc : t.pc.toNat = (s.pc.toNat + 4) % 2 ^ 32
  rs : t.rs = s.rs
  cause : t.cause = s.cause
  fpc : t.fpc = s.fpc
  finfo : t.finfo = s.finfo
  data : ∀ a, readCell t.dmem a = readCell s.dmem a
  instr : ∀ a, readCell t.imem a = readCell s.imem a
  params : t.params = s.params
  runStores : t.runStores = s.runStores

/-- Of the registers and memory, only `v[rd]` may differ. -/
structure OnlyV (s t : State) (rd : VReg) : Prop extends KeepsMachine s t where
  otherV : ∀ r, r ≠ rd → readV t r = readV s r
  everyS : ∀ r, readS t r = readS s r

/-- Of the registers and memory, only `s[rd]` may differ. -/
structure OnlyS (s t : State) (rd : SReg) : Prop extends KeepsMachine s t where
  everyV : ∀ r, readV t r = readV s r
  otherS : ∀ r, r ≠ rd → readS t r = readS s r

/-- `exec i s` answers a next state in which `v[rd]` satisfies `P` and nothing but `v[rd]` and `pc` changed. -/
def CompletesV (i : Instr) (s : State) (rd : VReg) (P : Vec → Prop) : Prop :=
  ∃ t, exec i s = .next t ∧ OnlyV s t rd ∧ t.draws = s.draws ∧ P (readV t rd)

/-- `exec i s` answers a next state in which `s[rd]` satisfies `P` and nothing but `s[rd]` and `pc` changed. -/
def CompletesS (i : Instr) (s : State) (rd : SReg) (P : Scalar → Prop) : Prop :=
  ∃ t, exec i s = .next t ∧ OnlyS s t rd ∧ t.draws = s.draws ∧ P (readS t rd)

/-- `t` is `s` after the fault primitive: the fault record, and nothing else (R311). -/
structure Raised (s t : State) (code : Nat) (info : Word) : Prop where
  rs : t.rs = .faulted
  cause : t.cause.toNat = code
  fpc : t.fpc = s.pc
  finfo : t.finfo = info
  pc : t.pc = s.pc
  everyV : ∀ r, readV t r = readV s r
  everyS : ∀ r, readS t r = readS s r
  data : ∀ a, readCell t.dmem a = readCell s.dmem a
  instr : ∀ a, readCell t.imem a = readCell s.imem a
  params : t.params = s.params
  runStores : t.runStores = s.runStores

/-! ### Lanes -/

/-- Lane `j` of register `r`, at 32 bits. -/
abbrev v32 (s : State) (r : VReg) (j : Nat) : BitVec 32 := lane 32 (readV s r) j

/-- Lane `j` of register `r`, at 64 bits. -/
abbrev v64 (s : State) (r : VReg) (j : Nat) : BitVec 64 := lane 64 (readV s r) j

/-- Every 32-bit lane of `x` satisfies `P`. -/
def Lanes32 (P : Nat → BitVec 32 → Prop) (x : Vec) : Prop := ∀ j, j < 4 → P j (lane 32 x j)

/-- Both 64-bit lanes of `x` satisfy `P`. -/
def Lanes64 (P : Nat → BitVec 64 → Prop) (x : Vec) : Prop := ∀ j, j < 2 → P j (lane 64 x j)

/-- Lanes 0 and 1 satisfy `P`, lanes 2 and 3 are zero (R280, narrowing). -/
def LowLanes32 (P : Nat → BitVec 32 → Prop) (x : Vec) : Prop :=
  P 0 (lane 32 x 0) ∧ P 1 (lane 32 x 1) ∧ lane 32 x 2 = 0 ∧ lane 32 x 3 = 0

/-- A mask lane that is true exactly when `p` holds (R22). -/
def TruthLane {W : Nat} (p : Prop) (m : BitVec W) : Prop := (p → m = BitVec.allOnes W) ∧ (¬p → m = 0)

/-! ### Floating point over the rationals -/

/-- A pattern that is neither a NaN nor an infinity (R12). -/
def Finite {W : Nat} (b : BitVec W) : Prop := expField b ≠ 2 ^ expBits W - 1

/-- `val_W(b)`, by the two formulas of R11. -/
def val {W : Nat} (b : BitVec W) : ℚ :=
  (if b.msb then -1 else 1) *
    if expField b = 0 then (fracField b : ℚ) * 2 ^ (1 - (bias W : ℤ) - fracBits W)
    else (2 ^ fracBits W + fracField b : ℚ) * 2 ^ ((expField b : ℤ) - bias W - fracBits W)

/-- `val_W` with -inf below and +inf above every finite value (R16). -/
def extVal {W : Nat} (b : BitVec W) : WithBot (WithTop ℚ) :=
  if isInf b then (if b.msb then ⊥ else ((⊤ : WithTop ℚ) : WithBot (WithTop ℚ)))
  else ((val b : WithTop ℚ) : WithBot (WithTop ℚ))

/-- `r` is `round_W(x)`, for a non-zero `x` (R13): a pattern of the sign of `x`; no finite pattern is nearer; where a
pattern of another value is equally near, the fraction of `r` is even; and `r` is the infinity exactly from the midpoint
above the largest finite value, `(2 - 2^(-m-1)) * 2^bias`, upward. -/
structure IsRound (W : Nat) (x : ℚ) (r : BitVec W) : Prop where
  notNaN : isNaN r = false
  sign : r.msb = decide (x < 0)
  nearest : Finite r → ∀ b : BitVec W, Finite b → |x - val r| ≤ |x - val b|
  tie : Finite r → ∀ b : BitVec W, Finite b → val b ≠ val r → |x - val r| = |x - val b| → fracField r % 2 = 0
  overflow : isInf r = true ↔ (2 - 2 ^ (-(fracBits W : ℤ) - 1)) * 2 ^ bias W ≤ |x|

/-- R14, `fadd`. -/
def AddResult {W : Nat} (a b r : BitVec W) : Prop :=
  if isNaN a ∨ isNaN b then isNaN r = true
  else if isInf a ∧ isInf b then (if a.msb = b.msb then r = a else isNaN r = true)
  else if isInf a then r = a
  else if isInf b then r = b
  else if val a + val b = 0 then r = (if a = signBit W ∧ b = signBit W then signBit W else 0)
  else IsRound W (val a + val b) r

/-- R14, `fsub`. -/
def SubResult {W : Nat} (a b r : BitVec W) : Prop := AddResult a (b ^^^ signBit W) r

/-- `r` is the infinity of sign `neg`. -/
def IsInfinity {W : Nat} (neg : Bool) (r : BitVec W) : Prop := isInf r = true ∧ r.msb = neg

/-- `r` is the zero of sign `neg`. -/
def IsZero {W : Nat} (neg : Bool) (r : BitVec W) : Prop := isZero r = true ∧ r.msb = neg

/-- R14, `fmul`. -/
def MulResult {W : Nat} (a b r : BitVec W) : Prop :=
  if isNaN a ∨ isNaN b then isNaN r = true
  else if isInf a ∧ isZero b ∨ isZero a ∧ isInf b then isNaN r = true
  else if isInf a ∨ isInf b then IsInfinity (a.msb ^^ b.msb) r
  else if val a * val b = 0 then IsZero (a.msb ^^ b.msb) r
  else IsRound W (val a * val b) r

/-- R14, `fdiv`. -/
def DivResult {W : Nat} (a b r : BitVec W) : Prop :=
  if isNaN a ∨ isNaN b then isNaN r = true
  else if isZero a ∧ isZero b ∨ isInf a ∧ isInf b then isNaN r = true
  else if isZero b ∨ isInf a then IsInfinity (a.msb ^^ b.msb) r
  else if isInf b ∨ isZero a then IsZero (a.msb ^^ b.msb) r
  else IsRound W (val a / val b) r

/-- R14, `ffma`. -/
def FmaResult {W : Nat} (a b c r : BitVec W) : Prop :=
  if isNaN a ∨ isNaN b ∨ isNaN c then isNaN r = true
  else if isInf a ∧ isZero b ∨ isZero a ∧ isInf b then isNaN r = true
  else if isInf a ∨ isInf b then
    (if isInf c ∧ (a.msb ^^ b.msb) ≠ c.msb then isNaN r = true else IsInfinity (a.msb ^^ b.msb) r)
  else if isInf c then r = c
  else if val a * val b + val c = 0 then
    r = (if (a.msb ^^ b.msb) = true ∧ val a * val b = 0 ∧ c = signBit W then signBit W else 0)
  else IsRound W (val a * val b + val c) r

/-- R182: one rounding or two, by `FUSED_MUL_ADD`. -/
def MulAddResult {W : Nat} (fused : Bool) (a b c r : BitVec W) : Prop :=
  if fused then FmaResult a b c r else ∃ p, MulResult a b p ∧ AddResult p c r

/-- R17, `i2f`. -/
def FromIntResult {W : Nat} (n : ℤ) (r : BitVec W) : Prop := if n = 0 then r = 0 else IsRound W n r

/-- R17, `f2f`. -/
def ResizeResult {W WD : Nat} (b : BitVec W) (r : BitVec WD) : Prop :=
  if isNaN b then isNaN r = true
  else if isInf b then IsInfinity b.msb r
  else if val b = 0 then IsZero b.msb r
  else IsRound WD (val b) r

/-- `n` is `x` rounded to an integer (R17). -/
def RoundsTo : Rounding → ℚ → ℤ → Prop
  | .rne, x, n => |x - n| ≤ 1 / 2 ∧ (|x - n| = 1 / 2 → Even n)
  | .trunc, x, n => n = if 0 ≤ x then ⌊x⌋ else ⌈x⌉
  | .floor, x, n => n = ⌊x⌋

/-- R287: the rounded integer where it is in range; nothing is said of the lane elsewhere. -/
def ToIntResult {W WD : Nat} (rnd : Rounding) (b : BitVec W) (r : BitVec WD) : Prop :=
  Finite b → ∀ n : ℤ, RoundsTo rnd (val b) n → -(2 ^ (WD - 1)) ≤ n → n ≤ 2 ^ (WD - 1) - 1 → r.toInt = n

/-- R261 where it is defined, and R262's bound for zeros of opposite sign; nothing is said with a NaN operand. -/
def MinFastResult {W : Nat} (a b r : BitVec W) : Prop :=
  isNaN a = false → isNaN b = false →
    (isZero a = true ∧ isZero b = true ∧ a ≠ b → isZero r = true) ∧
    (¬(isZero a = true ∧ isZero b = true ∧ a ≠ b) →
      (extVal a < extVal b → r = a) ∧ (¬extVal a < extVal b → r = b))

/-- R263 where it is defined, and R262's bound for zeros of opposite sign; nothing is said with a NaN operand. -/
def MaxFastResult {W : Nat} (a b r : BitVec W) : Prop :=
  isNaN a = false → isNaN b = false →
    (isZero a = true ∧ isZero b = true ∧ a ≠ b → isZero r = true) ∧
    (¬(isZero a = true ∧ isZero b = true ∧ a ≠ b) →
      (extVal a < extVal b → r = b) ∧ (¬extVal a < extVal b → r = a))

/-- A pair R262 leaves open though neither is a NaN: `+0` and `-0` in either order. -/
def OppositeZeros {W : Nat} (a b : BitVec W) : Prop := isZero a = true ∧ isZero b = true ∧ a ≠ b

/-- R265: the lane is `min_fast(m, hi)` for `m` the lane `max_fast(lo, x)`. The second part is the clamp that R265 draws
from it, where no pair that is compared is open: `lo` with `x`, and the larger of them with `hi`. -/
def ConstrainFastResult {W : Nat} (lo hi x r : BitVec W) : Prop :=
  (∃ m, MaxFastResult lo x m ∧ MinFastResult m hi r) ∧
  (isNaN lo = false → isNaN hi = false → isNaN x = false → ¬OppositeZeros lo x →
    (extVal lo ≤ extVal x → extVal x ≤ extVal hi → ¬OppositeZeros x hi → r = x) ∧
    (extVal x < extVal lo → extVal lo ≤ extVal hi → ¬OppositeZeros lo hi → r = lo) ∧
    (extVal hi < extVal x ∨ extVal hi < extVal lo → r = hi))

/-! ### The host's views -/

/-- R30: what a field of a mask record says of its lane. -/
def MaskField {W : Nat} (m : BitVec W) (field : Option Bool) : Prop :=
  (m = BitVec.allOnes W → field = some true) ∧ (m = 0 → field = some false) ∧
    (m ≠ BitVec.allOnes W → m ≠ 0 → field = none)

end Sys2Proof.Machine
end

