-- ==== Sys2Proof/Certificates/Slice0/Obligations.lean ====
section
/-!
DEFINITION. The statements for the provers. Each formalises rules of the spec, named in its docstring; OBLIGATIONS.json
says what each one states in words.
-/

open Sys2Proof Sys2Proof.Machine

/-- O1. Decoding the word of a well-formed instruction gives the instruction back (R60, R61, R63, R64, R65). -/
def Obligations.DecodeEncodeRoundTrip : Prop :=
  ∀ i : Instr, i.WellFormed → decode (encode i) = .ok i

/-- O2. A word that decodes is the word of the instruction it decodes to, and that instruction is well formed (R60,
R61, R64, R66). -/
def Obligations.LegalWordsAreExactlyTheEncodings : Prop :=
  ∀ (w : Word) (i : Instr), decode w = .ok i → encode i = w ∧ i.WellFormed

/-- O3. Words the spec writes out decode to the instructions it names, and words it calls illegal do not decode (R61,
R64, R65, R66, R100, R103, R108, R116, R133, R182, R211). -/
def Obligations.SpecWordsDecode : Prop :=
  decode 0x01000000 = .ok .halt ∧ decode 0x16821903 = .ok (.setlanePs 2 1 9 3) ∧
  decode 0x12004321 = .ok (.setPi32 0 4 3 2 1) ∧ decode 0x18802420 = .ok (.storeUnalignedPs 4 2 0x20) ∧
  decode 0x44830120 = .ok (.mulAddPs 3 0 1 2) ∧ decode 0x22010021 = .ok (.sbitcastF32I32 1 0) ∧
  decode 0x6041003F = .ok (.slImmPi64 1 0 63) ∧ decode 0x00000000 = .error .opcode ∧
  decode 0x44030120 = .error .kind ∧ decode 0x17041105 = .error .unusedField ∧
  decode 0x60010020 = .error .immediate

/-- O4. A step of a running block runs the instruction decoded from the four bytes at pc (R43, R60, R344). -/
def Obligations.StepRunsTheDecodedInstruction : Prop :=
  ∀ (s : State) (i : Instr), s.rs = .running → s.pc.toNat % 4 = 0 → s.pc.toNat + 3 < s.params.imemSize →
    decode (fetchWord s) = .ok i →
    step s = exec i (afterFetch s) ∧
    (∀ b3 b2 b1 b0 : Byte, readCell s.imem s.pc.toNat = some b0 → readCell s.imem (s.pc.toNat + 1) = some b1 →
      readCell s.imem (s.pc.toNat + 2) = some b2 → readCell s.imem (s.pc.toNat + 3) = some b3 →
      fetchWord s = b3 ++ b2 ++ b1 ++ b0 ∧ afterFetch s = s) ∧
    ∃ n, afterFetch s = { s with draws := n }

/-- O5. The checks of a step, in their order: misaligned fetch, fetch out of range, illegal word, then execution
(R313). -/
def Obligations.StepFaultsInOrderOfPriority : Prop :=
  ∀ s : State, s.rs = .running →
    (s.pc.toNat % 4 ≠ 0 → ∃ t, step s = .next t ∧ Raised s t 3 s.pc) ∧
    (s.pc.toNat % 4 = 0 → s.params.imemSize ≤ s.pc.toNat + 3 → ∃ t, step s = .next t ∧ Raised s t 4 s.pc) ∧
    (s.pc.toNat % 4 = 0 → s.pc.toNat + 3 < s.params.imemSize →
      (∀ c, decode (fetchWord s) = .error c → ∃ t, step s = .next t ∧ Raised s t 1 (fetchWord s)) ∧
      (∀ i, decode (fetchWord s) = .ok i → step s = exec i (afterFetch s) ∧
        ∀ (r : VReg) (ra : SReg) (imm8 : Byte),
          i ∈ [Instr.loadUnalignedPi32 r ra imm8, .loadUnalignedPi64 r ra imm8, .loadUnalignedPs r ra imm8,
               .loadUnalignedPd r ra imm8, .storeUnalignedPi32 r ra imm8, .storeUnalignedPi64 r ra imm8,
               .storeUnalignedPs r ra imm8, .storeUnalignedPd r ra imm8] →
          (∃ k < 16, s.params.memSize ≤ ((effectiveAddress (readS s ra) imm8).toNat + k) % 2 ^ 32) →
          ∃ t, step s = .next t ∧ Raised s t 2 (effectiveAddress (readS s ra) imm8)))

/-- O6. A halted or faulted block does nothing (R344, R314). -/
def Obligations.NothingStepsUnlessRunning : Prop :=
  ∀ s : State, s.rs ≠ .running → step s = .next s

/-- O7. The fault primitive writes CAUSE, FPC, FINFO and RS and nothing else, with the codes of R312 (R311). -/
def Obligations.RaiseWritesTheFaultRecordOnly : Prop :=
  ∀ (s : State) (x : Word),
    Raised s (raise s (.illegalInstruction x)) 1 x ∧ Raised s (raise s (.memAccessFault x)) 2 x ∧
    Raised s (raise s (.fetchMisaligned x)) 3 x ∧ Raised s (raise s (.fetchFault x)) 4 x

/-- O8. halt sets RS to HALTED, advances pc and changes nothing else (R100). -/
def Obligations.HaltEndsTheRun : Prop :=
  ∀ s : State, ∃ t, exec .halt s = .next t ∧ t.rs = .halted ∧ t.pc.toNat = (s.pc.toNat + 4) % 2 ^ 32 ∧
    (∀ r, readV t r = readV s r) ∧ (∀ r, readS t r = readS s r) ∧
    t.cause = s.cause ∧ t.fpc = s.fpc ∧ t.finfo = s.finfo ∧
    (∀ a, readCell t.dmem a = readCell s.dmem a) ∧ (∀ a, readCell t.imem a = readCell s.imem a) ∧
    t.params = s.params ∧ t.draws = s.draws ∧ t.runStores = s.runStores

/-- O9. Every step of a running block completes its instruction or takes one of the four faults with no other effect
(R310). -/
def Obligations.StepCompletesOrFaults : Prop :=
  ∀ s : State, s.rs = .running → ∃ t, step s = .next t ∧
    ((∃ code info, 1 ≤ code ∧ code ≤ 4 ∧ Raised s t code info) ∨
     (t.pc.toNat = (s.pc.toNat + 4) % 2 ^ 32 ∧ t.cause = s.cause ∧ t.fpc = s.fpc ∧ t.finfo = s.finfo ∧
       (t.rs = .running ∧ decode (fetchWord s) ≠ .ok .halt ∨
        t.rs = .halted ∧ decode (fetchWord s) = .ok .halt)))

/-- O10. A run that starts below IMEM_SIZE < 2^32 ends within (IMEM_SIZE - pc)/4 + 1 steps (R346). -/
def Obligations.EveryRunEnds : Prop :=
  ∀ s : State, s.rs = .running → s.pc.toNat < s.params.imemSize → s.params.imemSize < 2 ^ 32 →
    ∃ k ≤ (s.params.imemSize - s.pc.toNat) / 4 + 1, ∃ t : State,
      Host.Core.run Sys2Proof.core k s = .next t ∧ t.Ended

/-- O11. Every step keeps the invariant of the machine (R41, R42, R312, R314, R326, R346). -/
def Obligations.EveryStepKeepsTheInvariant : Prop :=
  ∀ s t : State, s.Inv → step s = .next t → t.Inv

/-- O12. The state after reset has the invariant (R7, R31, R41, R42). -/
def Obligations.ResetStateHasTheInvariant : Prop :=
  State.reset.Inv

/-- O13. Reset leaves pc 0, RS HALTED, an empty fault record and BK, and keeps memory but for what an interrupted run
could have written (R26, R31, R326). -/
def Obligations.ResetValues : Prop :=
  State.reset.pc = 0 ∧ State.reset.rs = .halted ∧ State.reset.cause = 0 ∧ State.reset.fpc = 0 ∧
  State.reset.finfo = 0 ∧ statusWord State.reset = (backendCode State.reset.params.backend).setWidth 32 <<< 2 ∧
  ∀ s : State, ∃ t, hostMove .assertReset s = .next t ∧
    t.pc = 0 ∧ t.rs = .halted ∧ t.cause = 0 ∧ t.fpc = 0 ∧ t.finfo = 0 ∧
    statusWord t = (backendCode s.params.backend).setWidth 32 <<< 2 ∧
    (∀ a, readCell t.imem a = readCell s.imem a) ∧
    (s.rs ≠ .running → ∀ a, readCell t.dmem a = readCell s.dmem a) ∧
    (s.rs = .running → ∀ u, step s = .next u → ∀ a,
      ((∃ ea ∈ u.runStores, ∃ k < 16, a = (ea.toNat + k) % 2 ^ 32) → readCell t.dmem a = none) ∧
      ((∀ ea ∈ u.runStores, ∀ k < 16, a ≠ (ea.toNat + k) % 2 ^ 32) → readCell t.dmem a = readCell s.dmem a)) ∧
    t.runStores = []

/-- O14. No step writes instruction memory or changes a build parameter (R8, R40, R42, R53). -/
def Obligations.NoStepWritesInstructionMemory : Prop :=
  ∀ s t : State, step s = .next t → (∀ a, readCell t.imem a = readCell s.imem a) ∧ t.params = s.params

/-- O15. The effective address is the low 32 bits of the base plus the signed offset, modulo 2^32 (R110). -/
def Obligations.EffectiveAddressIsBasePlusOffset : Prop :=
  ∀ (base : Scalar) (imm8 : Byte),
    ((effectiveAddress base imm8).toNat : ℤ) = (((base.toNat % 2 ^ 32 : ℕ) : ℤ) + imm8.toInt) % 2 ^ 32

/-- O16. A load whose sixteen bytes are in bounds completes with the bytes of memory, lowest address in the lowest
byte (R115). -/
def Obligations.LoadReadsSixteenBytes : Prop :=
  ∀ (s : State) (rd : VReg) (ra : SReg) (imm8 : Byte),
    ∀ i ∈ [Instr.loadUnalignedPi32 rd ra imm8, .loadUnalignedPi64 rd ra imm8, .loadUnalignedPs rd ra imm8,
       .loadUnalignedPd rd ra imm8],
      (∀ k < 16, ((effectiveAddress (readS s ra) imm8).toNat + k) % 2 ^ 32 < s.params.memSize) →
      ∃ t, exec i s = .next t ∧ OnlyV s t rd ∧
        (∀ k < 16, ∀ b, readCell s.dmem (((effectiveAddress (readS s ra) imm8).toNat + k) % 2 ^ 32) = some b →
          (readV t rd).extractLsb' (8 * k) 8 = b) ∧
        ((∀ k < 16, (readCell s.dmem (((effectiveAddress (readS s ra) imm8).toNat + k) % 2 ^ 32)).isSome) →
          t.draws = s.draws)

/-- O17. A store whose sixteen bytes are in bounds writes byte j of the register at EA + j and nothing else (R116). -/
def Obligations.StoreWritesSixteenBytes : Prop :=
  ∀ (s : State) (rb : VReg) (ra : SReg) (imm8 : Byte),
    ∀ i ∈ [Instr.storeUnalignedPi32 rb ra imm8, .storeUnalignedPi64 rb ra imm8, .storeUnalignedPs rb ra imm8,
       .storeUnalignedPd rb ra imm8],
      (∀ k < 16, ((effectiveAddress (readS s ra) imm8).toNat + k) % 2 ^ 32 < s.params.memSize) →
      ∃ t, exec i s = .next t ∧
        (∀ k < 16, readCell t.dmem (((effectiveAddress (readS s ra) imm8).toNat + k) % 2 ^ 32) =
          some ((readV s rb).extractLsb' (8 * k) 8)) ∧
        (∀ a, (∀ k < 16, a ≠ ((effectiveAddress (readS s ra) imm8).toNat + k) % 2 ^ 32) →
          readCell t.dmem a = readCell s.dmem a) ∧
        (∀ r, readV t r = readV s r) ∧ (∀ r, readS t r = readS s r) ∧
        t.pc.toNat = (s.pc.toNat + 4) % 2 ^ 32 ∧ t.rs = s.rs ∧ t.cause = s.cause ∧ t.fpc = s.fpc ∧
        t.finfo = s.finfo ∧ (∀ a, readCell t.imem a = readCell s.imem a) ∧ t.params = s.params ∧
        t.draws = s.draws ∧ t.runStores = effectiveAddress (readS s ra) imm8 :: s.runStores

/-- O18. A load or store with any byte out of bounds raises MemAccessFault before any byte moves (R44). -/
def Obligations.OutOfBoundsAccessFaults : Prop :=
  ∀ (s : State) (r : VReg) (ra : SReg) (imm8 : Byte),
    ∀ i ∈ [Instr.loadUnalignedPi32 r ra imm8, .loadUnalignedPi64 r ra imm8, .loadUnalignedPs r ra imm8,
       .loadUnalignedPd r ra imm8, .storeUnalignedPi32 r ra imm8, .storeUnalignedPi64 r ra imm8,
       .storeUnalignedPs r ra imm8, .storeUnalignedPd r ra imm8],
      (∃ k < 16, s.params.memSize ≤ ((effectiveAddress (readS s ra) imm8).toNat + k) % 2 ^ 32) →
      ∃ t, exec i s = .next t ∧ Raised s t 2 (effectiveAddress (readS s ra) imm8)

/-- O19. What one kind stores, every kind loads back: the same 128 bits (R45). -/
def Obligations.StoreThenLoadReturnsTheRegister : Prop :=
  ∀ (s : State) (rd rb : VReg) (ra : SReg) (imm8 : Byte),
    ∀ i ∈ [Instr.storeUnalignedPi32 rb ra imm8, .storeUnalignedPi64 rb ra imm8, .storeUnalignedPs rb ra imm8,
       .storeUnalignedPd rb ra imm8],
      ∀ j ∈ [Instr.loadUnalignedPi32 rd ra imm8, .loadUnalignedPi64 rd ra imm8, .loadUnalignedPs rd ra imm8,
         .loadUnalignedPd rd ra imm8],
        (∀ k < 16, ((effectiveAddress (readS s ra) imm8).toNat + k) % 2 ^ 32 < s.params.memSize) →
        ∃ t u, exec i s = .next t ∧
          (∀ k < 16, readCell t.dmem (((effectiveAddress (readS s ra) imm8).toNat + k) % 2 ^ 32) =
            some ((readV s rb).extractLsb' (8 * k) 8)) ∧
          exec j t = .next u ∧ readV u rd = readV s rb

/-- O20. setzero writes 128 zero bits; set1 copies the low W bits of a scalar to every lane (R101, R102). -/
def Obligations.SetzeroAndSet1 : Prop :=
  ∀ (s : State) (rd : VReg) (ra : SReg),
    (∀ i ∈ [Instr.setzeroPi32 rd, .setzeroPi64 rd, .setzeroPs rd, .setzeroPd rd],
      CompletesV i s rd fun r => r = 0) ∧
    (∀ i ∈ [Instr.set1Pi32 rd ra, .set1Ps rd ra],
      CompletesV i s rd (Lanes32 fun _ x => x.toNat = (readS s ra).toNat % 2 ^ 32)) ∧
    (∀ i ∈ [Instr.set1Pi64 rd ra, .set1Pd rd ra], CompletesV i s rd (Lanes64 fun _ x => x = readS s ra))

/-- O21. set and set_from build a register from scalars, the first operand in the highest lane (R103, R104). -/
def Obligations.SetBuildsLanesHighToLow : Prop :=
  ∀ (s : State) (rd : VReg) (ra rb rc re : SReg),
    (∀ i ∈ [Instr.setPi32 rd ra rb rc re, .setPs rd ra rb rc re, .setFromU32Pi32 rd ra rb rc re,
        .setFromU32Ps rd ra rb rc re],
      CompletesV i s rd fun r =>
        (lane 32 r 3).toNat = (readS s ra).toNat % 2 ^ 32 ∧ (lane 32 r 2).toNat = (readS s rb).toNat % 2 ^ 32 ∧
        (lane 32 r 1).toNat = (readS s rc).toNat % 2 ^ 32 ∧ (lane 32 r 0).toNat = (readS s re).toNat % 2 ^ 32) ∧
    (∀ i ∈ [Instr.setPi64 rd ra rb, .setPd rd ra rb, .setFromU64Pi64 rd ra rb, .setFromU64Pd rd ra rb],
      CompletesV i s rd fun r => lane 64 r 1 = readS s ra ∧ lane 64 r 0 = readS s rb)

/-- O22. set_mask writes an all-ones lane for a non-zero scalar and an all-zeros lane for zero (R105). -/
def Obligations.SetMaskBuildsAValidMask : Prop :=
  ∀ (s : State) (rd : VReg) (ra rb rc re : SReg),
    (∀ i ∈ [Instr.setMaskPi32 rd ra rb rc re, .setMaskPs rd ra rb rc re],
      CompletesV i s rd fun r =>
        TruthLane (readS s ra ≠ 0) (lane 32 r 3) ∧ TruthLane (readS s rb ≠ 0) (lane 32 r 2) ∧
        TruthLane (readS s rc ≠ 0) (lane 32 r 1) ∧ TruthLane (readS s re ≠ 0) (lane 32 r 0) ∧ isMask32 r = true) ∧
    (∀ i ∈ [Instr.setMaskPi64 rd ra rb, .setMaskPd rd ra rb],
      CompletesV i s rd fun r =>
        TruthLane (readS s ra ≠ 0) (lane 64 r 1) ∧ TruthLane (readS s rb ≠ 0) (lane 64 r 0) ∧ isMask64 r = true)

/-- O23. get writes the indexed lane to a scalar register: sign-extended for pi32, zero-extended for ps (R106, R107).
-/
def Obligations.GetExtractsALane : Prop :=
  ∀ (s : State) (rd : SReg) (ra : VReg) (imm8 : Byte),
    (imm8.toNat < 4 →
      CompletesS (.getPi32 rd ra imm8) s rd (fun x => x.toInt = (v32 s ra imm8.toNat).toInt) ∧
      CompletesS (.getPs rd ra imm8) s rd (fun x => x.toNat = (v32 s ra imm8.toNat).toNat)) ∧
    (imm8.toNat < 2 →
      CompletesS (.getPi64 rd ra imm8) s rd (fun x => x = v64 s ra imm8.toNat) ∧
      CompletesS (.getPd rd ra imm8) s rd (fun x => x = v64 s ra imm8.toNat))

/-- O24. setlane writes a copy of v[ra] with the indexed lane replaced by the low W bits of the scalar (R108). -/
def Obligations.SetlaneReplacesOneLane : Prop :=
  ∀ (s : State) (rd ra : VReg) (rb : SReg) (imm8 : Byte),
    (imm8.toNat < 4 → ∀ i ∈ [Instr.setlanePi32 rd ra rb imm8, .setlanePs rd ra rb imm8],
      CompletesV i s rd (Lanes32 fun j x =>
        (j = imm8.toNat → x.toNat = (readS s rb).toNat % 2 ^ 32) ∧ (j ≠ imm8.toNat → x = v32 s ra j))) ∧
    (imm8.toNat < 2 → ∀ i ∈ [Instr.setlanePi64 rd ra rb imm8, .setlanePd rd ra rb imm8],
      CompletesV i s rd (Lanes64 fun j x =>
        (j = imm8.toNat → x = readS s rb) ∧ (j ≠ imm8.toNat → x = v64 s ra j)))

/-- O25. get after setlane returns the scalar's low bits, and set of all the gets rebuilds the register (R109). -/
def Obligations.GetAndSetAreInverse : Prop :=
  ∀ (s : State) (rd ra q : VReg) (rb rq a3 a2 a1 a0 : SReg) (imm8 : Byte),
    (imm8.toNat < 4 →
      (∃ t u, exec (.setlanePi32 rd ra rb imm8) s = .next t ∧ exec (.getPi32 rq rd imm8) t = .next u ∧
        readS u rq = ((readS s rb).extractLsb' 0 32).signExtend 64) ∧
      ∃ t u, exec (.setlanePs rd ra rb imm8) s = .next t ∧ exec (.getPs rq rd imm8) t = .next u ∧
        readS u rq = ((readS s rb).extractLsb' 0 32).setWidth 64) ∧
    (imm8.toNat < 2 →
      (∃ t u, exec (.setlanePi64 rd ra rb imm8) s = .next t ∧ exec (.getPi64 rq rd imm8) t = .next u ∧
        readS u rq = readS s rb) ∧
      ∃ t u, exec (.setlanePd rd ra rb imm8) s = .next t ∧ exec (.getPd rq rd imm8) t = .next u ∧
        readS u rq = readS s rb) ∧
    (readS s a3 = (v32 s q 3).signExtend 64 → readS s a2 = (v32 s q 2).signExtend 64 →
      readS s a1 = (v32 s q 1).signExtend 64 → readS s a0 = (v32 s q 0).signExtend 64 →
      CompletesV (.setPi32 rd a3 a2 a1 a0) s rd fun r => r = readV s q) ∧
    (readS s a3 = (v32 s q 3).setWidth 64 → readS s a2 = (v32 s q 2).setWidth 64 →
      readS s a1 = (v32 s q 1).setWidth 64 → readS s a0 = (v32 s q 0).setWidth 64 →
      CompletesV (.setPs rd a3 a2 a1 a0) s rd fun r => r = readV s q) ∧
    (readS s a1 = v64 s q 1 → readS s a0 = v64 s q 0 →
      ∀ i ∈ [Instr.setPi64 rd a1 a0, .setPd rd a1 a0], CompletesV i s rd fun r => r = readV s q)

/-- O26. debug_eq writes 1 if the two registers hold the same 128 bits and 0 otherwise (R117). -/
def Obligations.DebugEqComparesAllBits : Prop :=
  ∀ (s : State) (rd : SReg) (ra rb : VReg),
    ∀ i ∈ [Instr.debugEqPi32 rd ra rb, .debugEqPi64 rd ra rb, .debugEqPs rd ra rb, .debugEqPd rd ra rb],
      CompletesS i s rd fun x => (readV s ra = readV s rb → x = 1) ∧ (readV s ra ≠ readV s rb → x = 0)

/-- O27. Every vector and mask bitcast, and every equal-width mask conversion, copies the 128 bits (R130, R242). -/
def Obligations.BitcastsCopyAllBits : Prop :=
  (∀ (s : State) (rd ra : VReg),
    ∀ i ∈ [Instr.bitcastPi32Pi64 rd ra, .bitcastPi32Ps rd ra, .bitcastPi32Pd rd ra, .bitcastPi64Pi32 rd ra,
       .bitcastPi64Ps rd ra, .bitcastPi64Pd rd ra, .bitcastPsPi32 rd ra, .bitcastPsPi64 rd ra, .bitcastPsPd rd ra,
       .bitcastPdPi32 rd ra, .bitcastPdPi64 rd ra, .bitcastPdPs rd ra, .bitcastCmpPi32Pi64 rd ra,
       .bitcastCmpPi32Ps rd ra, .bitcastCmpPi32Pd rd ra, .bitcastCmpPi64Pi32 rd ra, .bitcastCmpPi64Ps rd ra,
       .bitcastCmpPi64Pd rd ra, .bitcastCmpPsPi32 rd ra, .bitcastCmpPsPi64 rd ra, .bitcastCmpPsPd rd ra,
       .bitcastCmpPdPi32 rd ra, .bitcastCmpPdPi64 rd ra, .bitcastCmpPdPs rd ra, .cvtcmpPi32Ps rd ra,
       .cvtcmpPsPi32 rd ra, .cvtcmpPi64Pd rd ra, .cvtcmpPdPi64 rd ra],
      CompletesV i s rd fun r => r = readV s ra) ∧
  ∀ (x : Vec) (j : Nat), j < 2 → lane 64 x j = lane 32 x (2 * j + 1) ++ lane 32 x (2 * j)

/-- O28. sbitcast copies 32 or 64 bits: sign-extended to i32, zero-extended to u32 and f32 (R133). -/
def Obligations.ScalarBitcastsCopyTheLowBits : Prop :=
  ∀ (s : State) (rd ra : SReg),
    (∀ i ∈ [Instr.sbitcastU32I32 rd ra, .sbitcastF32I32 rd ra],
      CompletesS i s rd fun x => x.toInt = ((readS s ra).extractLsb' 0 32).toInt) ∧
    (∀ i ∈ [Instr.sbitcastU32F32 rd ra, .sbitcastI32U32 rd ra, .sbitcastI32F32 rd ra, .sbitcastF32U32 rd ra],
      CompletesS i s rd fun x => x.toNat = (readS s ra).toNat % 2 ^ 32) ∧
    (∀ i ∈ [Instr.sbitcastU64I64 rd ra, .sbitcastU64F64 rd ra, .sbitcastI64U64 rd ra, .sbitcastI64F64 rd ra,
        .sbitcastF64U64 rd ra, .sbitcastF64I64 rd ra],
      CompletesS i s rd fun x => x = readS s ra)

/-- O29. Lane i of a shuffle is the source lane its selector names (R141, R142). -/
def Obligations.ShuffleSelectsLanes : Prop :=
  ∀ (s : State) (rd ra : VReg) (imm8 : Byte),
    (∀ i ∈ [Instr.shufflePi32 rd ra imm8, .shufflePs rd ra imm8],
      CompletesV i s rd (Lanes32 fun j x => x = v32 s ra (imm8.toNat / 4 ^ j % 4))) ∧
    (imm8.toNat ≤ 3 → ∀ i ∈ [Instr.shufflePi64 rd ra imm8, .shufflePd rd ra imm8],
      CompletesV i s rd (Lanes64 fun j x => x = v64 s ra (imm8.toNat / 2 ^ j % 2)))

/-- O30. Every one of the 256 entries of the NEON table computes the shuffle of its selector (R161, R162). -/
def Obligations.NeonTableMatchesTheShuffleRule : Prop :=
  neonTable.length = 256 ∧ neonTable.countP (fun e => e.length == 0) = 1 ∧
  neonTable.countP (fun e => e.length == 1) = 26 ∧ neonTable.countP (fun e => e.length == 2) = 194 ∧
  neonTable.countP (fun e => e.length == 3) = 35 ∧
  ∀ (x : Vec) (imm8 : Byte), Lanes32 (fun j y => y = lane 32 x (imm8.toNat / 4 ^ j % 4)) (neonShuffle x imm8)

/-- O31. Integer add, sub and mul give the low W bits, lane by lane (R171, R173, R175). -/
def Obligations.IntegerAddSubMulWrap : Prop :=
  ∀ (s : State) (rd ra rb : VReg),
    CompletesV (.addPi32 rd ra rb) s rd
      (Lanes32 fun j r => r.toNat = ((v32 s ra j).toNat + (v32 s rb j).toNat) % 2 ^ 32) ∧
    CompletesV (.addPi64 rd ra rb) s rd
      (Lanes64 fun j r => r.toNat = ((v64 s ra j).toNat + (v64 s rb j).toNat) % 2 ^ 64) ∧
    CompletesV (.subPi32 rd ra rb) s rd
      (Lanes32 fun j r => (r.toNat : ℤ) = ((v32 s ra j).toNat - (v32 s rb j).toNat : ℤ) % 2 ^ 32) ∧
    CompletesV (.subPi64 rd ra rb) s rd
      (Lanes64 fun j r => (r.toNat : ℤ) = ((v64 s ra j).toNat - (v64 s rb j).toNat : ℤ) % 2 ^ 64) ∧
    CompletesV (.mulPi32 rd ra rb) s rd
      (Lanes32 fun j r => (r.toNat : ℤ) = (v32 s ra j).toInt * (v32 s rb j).toInt % 2 ^ 32) ∧
    CompletesV (.mulPi64 rd ra rb) s rd
      (Lanes64 fun j r => (r.toNat : ℤ) = (v64 s ra j).toInt * (v64 s rb j).toInt % 2 ^ 64)

/-- O32. The reference constructions of mul_pi32, sra_imm_pi64, the 64-bit compares, mul_pi64 and integer div give
what the instructions give (R176, R181, R214, R232). -/
def Obligations.BackendConstructionsAgree : Prop :=
  ∀ (s : State) (rd ra rb : VReg) (imm8 : Byte),
    CompletesV (.mulPi32 rd ra rb) s rd (fun r => r = mulPi32Sse2 (readV s ra) (readV s rb)) ∧
    (imm8.toNat < 64 →
      CompletesV (.sraImmPi64 rd ra imm8) s rd (fun r => r = sraImmPi64Sse2 (readV s ra) imm8.toNat)) ∧
    CompletesV (.cmpeqPi64 rd ra rb) s rd (fun r => r = cmpeqPi64Sse2 (readV s ra) (readV s rb)) ∧
    CompletesV (.cmpneqPi64 rd ra rb) s rd (fun r => r = ~~~cmpeqPi64Sse2 (readV s ra) (readV s rb)) ∧
    CompletesV (.mulPi64 rd ra rb) s rd
      (fun r => r = viaScalar64 (fun a b => BitVec.ofNat 64 (a.toNat * b.toNat)) (readV s ra) (readV s rb)) ∧
    CompletesV (.divPi32 rd ra rb) s rd
      (fun r => r = viaScalar32 (divLane s.params .pi32) (readV s ra) (readV s rb)) ∧
    CompletesV (.divPi64 rd ra rb) s rd
      (fun r => r = viaScalar64 (divLane s.params .pi64) (readV s ra) (readV s rb)) ∧
    CompletesV (.cmpltPi64 rd ra rb) s rd
      (fun r => r = viaScalar64 (fun a b => maskLane 64 (a.toInt < b.toInt)) (readV s ra) (readV s rb)) ∧
    CompletesV (.cmplePi64 rd ra rb) s rd
      (fun r => r = viaScalar64 (fun a b => maskLane 64 (a.toInt ≤ b.toInt)) (readV s ra) (readV s rb)) ∧
    CompletesV (.cmpgePi64 rd ra rb) s rd
      (fun r => r = viaScalar64 (fun a b => maskLane 64 (a.toInt ≥ b.toInt)) (readV s ra) (readV s rb)) ∧
    CompletesV (.cmpgtPi64 rd ra rb) s rd
      (fun r => r = viaScalar64 (fun a b => maskLane 64 (a.toInt > b.toInt)) (readV s ra) (readV s rb))

/-- O33. Integer division rounds toward zero; a zero divisor and the overflowing quotient leave only their lane open
(R178). -/
def Obligations.IntegerDivideTowardZero : Prop :=
  ∀ (s : State) (rd ra rb : VReg),
    CompletesV (.divPi32 rd ra rb) s rd
      (Lanes32 fun j q =>
        ((v32 s rb j).toInt = 0 ∨ (v32 s ra j).toInt = -(2 ^ 31) ∧ (v32 s rb j).toInt = -1 →
          q = Config.intDivUndefined s.params .pi32 (v32 s ra j) (v32 s rb j)) ∧
        (¬((v32 s rb j).toInt = 0 ∨ (v32 s ra j).toInt = -(2 ^ 31) ∧ (v32 s rb j).toInt = -1) →
          q.toInt = (v32 s ra j).toInt.tdiv (v32 s rb j).toInt ∧
          ∃ rem : ℤ, (v32 s ra j).toInt = q.toInt * (v32 s rb j).toInt + rem ∧ |rem| < |(v32 s rb j).toInt| ∧
            (rem = 0 ∨ (rem < 0 ↔ (v32 s ra j).toInt < 0)))) ∧
    CompletesV (.divPi64 rd ra rb) s rd
      (Lanes64 fun j q =>
        ((v64 s rb j).toInt = 0 ∨ (v64 s ra j).toInt = -(2 ^ 63) ∧ (v64 s rb j).toInt = -1 →
          q = Config.intDivUndefined s.params .pi64 (v64 s ra j) (v64 s rb j)) ∧
        (¬((v64 s rb j).toInt = 0 ∨ (v64 s ra j).toInt = -(2 ^ 63) ∧ (v64 s rb j).toInt = -1) →
          q.toInt = (v64 s ra j).toInt.tdiv (v64 s rb j).toInt ∧
          ∃ rem : ℤ, (v64 s ra j).toInt = q.toInt * (v64 s rb j).toInt + rem ∧ |rem| < |(v64 s rb j).toInt| ∧
            (rem = 0 ∨ (rem < 0 ↔ (v64 s ra j).toInt < 0))))

/-- O34. safediv gives the dividend where the divisor is zero and the quotient of div elsewhere (R183). -/
def Obligations.SafeDivideInteger : Prop :=
  ∀ (s : State) (rd ra rb : VReg),
    (∃ u, exec (.divPi32 rd ra rb) s = .next u ∧
      CompletesV (.safedivPi32 rd ra rb) s rd (Lanes32 fun j r =>
        (v32 s rb j = 0 → r = v32 s ra j) ∧ (v32 s rb j ≠ 0 → r = v32 u rd j))) ∧
    ∃ u, exec (.divPi64 rd ra rb) s = .next u ∧
      CompletesV (.safedivPi64 rd ra rb) s rd (Lanes64 fun j r =>
        (v64 s rb j = 0 → r = v64 s ra j) ∧ (v64 s rb j ≠ 0 → r = v64 u rd j))

/-- O35. Integer neg is subtraction from zero modulo 2^W; abs negates negative lanes and keeps the most negative value
(R185, R187). -/
def Obligations.IntegerNegAndAbs : Prop :=
  ∀ (s : State) (rd ra : VReg),
    CompletesV (.negPi32 rd ra) s rd (Lanes32 fun j r => (r.toNat : ℤ) = (-(v32 s ra j).toNat : ℤ) % 2 ^ 32) ∧
    CompletesV (.negPi64 rd ra) s rd (Lanes64 fun j r => (r.toNat : ℤ) = (-(v64 s ra j).toNat : ℤ) % 2 ^ 64) ∧
    CompletesV (.absPi32 rd ra) s rd (Lanes32 fun j r => (r.toNat : ℤ) = |(v32 s ra j).toInt|) ∧
    CompletesV (.absPi64 rd ra) s rd (Lanes64 fun j r => (r.toNat : ℤ) = |(v64 s ra j).toInt|)

/-- O36. Float neg flips the sign bit, abs clears it, remove_signed_zero changes only the pattern -0: on every pattern
(R186, R188, R266). -/
def Obligations.FloatSignOperations : Prop :=
  ∀ (s : State) (rd ra : VReg),
    CompletesV (.negPs rd ra) s rd
      (Lanes32 fun j r => r.msb = !(v32 s ra j).msb ∧ r.toNat % 2 ^ 31 = (v32 s ra j).toNat % 2 ^ 31) ∧
    CompletesV (.negPd rd ra) s rd
      (Lanes64 fun j r => r.msb = !(v64 s ra j).msb ∧ r.toNat % 2 ^ 63 = (v64 s ra j).toNat % 2 ^ 63) ∧
    CompletesV (.absPs rd ra) s rd (Lanes32 fun j r => r.toNat = (v32 s ra j).toNat % 2 ^ 31) ∧
    CompletesV (.absPd rd ra) s rd (Lanes64 fun j r => r.toNat = (v64 s ra j).toNat % 2 ^ 63) ∧
    CompletesV (.removeSignedZeroPs rd ra) s rd (Lanes32 fun j r =>
      (v32 s ra j = 0x80000000 → r = 0) ∧ (v32 s ra j ≠ 0x80000000 → r = v32 s ra j)) ∧
    CompletesV (.removeSignedZeroPd rd ra) s rd (Lanes64 fun j r =>
      (v64 s ra j = 0x8000000000000000 → r = 0) ∧ (v64 s ra j ≠ 0x8000000000000000 → r = v64 s ra j))

/-- O37. The fields of a binary32 and of a binary64 pattern, the bias and the value they stand for (R11, R12). -/
def Obligations.FloatFormatFields : Prop :=
  (∀ b : BitVec 32, expField b = b.toNat / 2 ^ 23 % 2 ^ 8 ∧ fracField b = b.toNat % 2 ^ 23 ∧
    (isNaN b = true ↔ expField b = 255 ∧ fracField b ≠ 0) ∧ (isInf b = true ↔ expField b = 255 ∧ fracField b = 0) ∧
    (isZero b = true ↔ b.toNat % 2 ^ 31 = 0) ∧ (signOf b = true ↔ 2 ^ 31 ≤ b.toNat) ∧ (Finite b ↔ expField b ≤ 254) ∧
    (expField b = 0 → val b = (if 2 ^ 31 ≤ b.toNat then -1 else 1) * ((fracField b : ℚ) * 2 ^ (-149 : ℤ))) ∧
    (1 ≤ expField b → expField b ≤ 254 → val b =
      (if 2 ^ 31 ≤ b.toNat then -1 else 1) * ((2 ^ 23 + fracField b : ℚ) * 2 ^ ((expField b : ℤ) - 150)))) ∧
  (∀ b : BitVec 64, expField b = b.toNat / 2 ^ 52 % 2 ^ 11 ∧ fracField b = b.toNat % 2 ^ 52 ∧
    (isNaN b = true ↔ expField b = 2047 ∧ fracField b ≠ 0) ∧ (isInf b = true ↔ expField b = 2047 ∧ fracField b = 0) ∧
    (isZero b = true ↔ b.toNat % 2 ^ 63 = 0) ∧ (signOf b = true ↔ 2 ^ 63 ≤ b.toNat) ∧ (Finite b ↔ expField b ≤ 2046) ∧
    (expField b = 0 → val b = (if 2 ^ 63 ≤ b.toNat then -1 else 1) * ((fracField b : ℚ) * 2 ^ (-1074 : ℤ))) ∧
    (1 ≤ expField b → expField b ≤ 2046 → val b =
      (if 2 ^ 63 ≤ b.toNat then -1 else 1) * ((2 ^ 52 + fracField b : ℚ) * 2 ^ ((expField b : ℤ) - 1075)))) ∧
  bias 32 = 127 ∧ bias 64 = 1023 ∧ fracBits 32 = 23 ∧ fracBits 64 = 52

/-- O38. round_W gives the nearest pattern, ties to the even fraction, infinity above the range, subnormals kept
(R13). -/
def Obligations.RoundingIsToNearestEven : Prop :=
  ∀ W : Nat, W = 32 ∨ W = 64 → ∀ (neg : Bool) (num den : Nat), 0 < num → 0 < den →
    IsRound W ((if neg then -1 else 1) * ((num : ℚ) / den) * 2 ^ (-(unitExp W : ℤ))) (roundTo W neg num den)

/-- O39. add and sub of ps and pd give the correctly rounded exact sum and difference, with the special cases of R14
(R14, R172, R174). -/
def Obligations.FloatAddAndSub : Prop :=
  ∀ (s : State) (rd ra rb : VReg),
    CompletesV (.addPs rd ra rb) s rd (Lanes32 fun j r => AddResult (v32 s ra j) (v32 s rb j) r) ∧
    CompletesV (.addPd rd ra rb) s rd (Lanes64 fun j r => AddResult (v64 s ra j) (v64 s rb j) r) ∧
    CompletesV (.subPs rd ra rb) s rd (Lanes32 fun j r => SubResult (v32 s ra j) (v32 s rb j) r) ∧
    CompletesV (.subPd rd ra rb) s rd (Lanes64 fun j r => SubResult (v64 s ra j) (v64 s rb j) r)

/-- O40. mul, div and safediv of ps and pd give the correctly rounded product and quotient, with the special cases of
R14 (R14, R177, R180, R184). -/
def Obligations.FloatMulDivAndSafediv : Prop :=
  ∀ (s : State) (rd ra rb : VReg),
    CompletesV (.mulPs rd ra rb) s rd (Lanes32 fun j r => MulResult (v32 s ra j) (v32 s rb j) r) ∧
    CompletesV (.mulPd rd ra rb) s rd (Lanes64 fun j r => MulResult (v64 s ra j) (v64 s rb j) r) ∧
    CompletesV (.divPs rd ra rb) s rd (Lanes32 fun j r => DivResult (v32 s ra j) (v32 s rb j) r) ∧
    CompletesV (.divPd rd ra rb) s rd (Lanes64 fun j r => DivResult (v64 s ra j) (v64 s rb j) r) ∧
    CompletesV (.safedivPs rd ra rb) s rd (Lanes32 fun j r =>
      (isZero (v32 s rb j) = true → r = v32 s ra j) ∧
      (isZero (v32 s rb j) = false → DivResult (v32 s ra j) (v32 s rb j) r)) ∧
    CompletesV (.safedivPd rd ra rb) s rd (Lanes64 fun j r =>
      (isZero (v64 s rb j) = true → r = v64 s ra j) ∧
      (isZero (v64 s rb j) = false → DivResult (v64 s ra j) (v64 s rb j) r))

/-- O41. mul_add rounds once if FUSED_MUL_ADD and twice otherwise (R182). -/
def Obligations.FloatMultiplyAdd : Prop :=
  ∀ (s : State) (rd ra rb rc : VReg),
    CompletesV (.mulAddPs rd ra rb rc) s rd
      (Lanes32 fun j r => MulAddResult s.params.fusedMulAdd (v32 s ra j) (v32 s rb j) (v32 s rc j) r) ∧
    CompletesV (.mulAddPd rd ra rb rc) s rd
      (Lanes64 fun j r => MulAddResult s.params.fusedMulAdd (v64 s ra j) (v64 s rb j) (v64 s rc j) r)

/-- O42. The bitwise operations and the mask combinators, bit by bit on all 128 bits, for every kind (R201, R202,
R203, R204, R205, R233, R234, R235, R236, R237, R239). -/
def Obligations.BitwiseOnAllBits : Prop :=
  ∀ (s : State) (rd ra rb : VReg),
    (∀ i ∈ [Instr.andPi32 rd ra rb, .andPi64 rd ra rb, .andPs rd ra rb, .andPd rd ra rb, .andCmpPi32 rd ra rb,
       .andCmpPi64 rd ra rb, .andCmpPs rd ra rb, .andCmpPd rd ra rb],
      CompletesV i s rd fun r => ∀ n < 128, r.getLsbD n = ((readV s ra).getLsbD n && (readV s rb).getLsbD n)) ∧
    (∀ i ∈ [Instr.andnotPi32 rd ra rb, .andnotPi64 rd ra rb, .andnotPs rd ra rb, .andnotPd rd ra rb,
       .andnotCmpPi32 rd ra rb, .andnotCmpPi64 rd ra rb, .andnotCmpPs rd ra rb, .andnotCmpPd rd ra rb],
      CompletesV i s rd fun r => ∀ n < 128, r.getLsbD n = (!(readV s ra).getLsbD n && (readV s rb).getLsbD n)) ∧
    (∀ i ∈ [Instr.orPi32 rd ra rb, .orPi64 rd ra rb, .orPs rd ra rb, .orPd rd ra rb, .orCmpPi32 rd ra rb,
       .orCmpPi64 rd ra rb, .orCmpPs rd ra rb, .orCmpPd rd ra rb],
      CompletesV i s rd fun r => ∀ n < 128, r.getLsbD n = ((readV s ra).getLsbD n || (readV s rb).getLsbD n)) ∧
    (∀ i ∈ [Instr.xorPi32 rd ra rb, .xorPi64 rd ra rb, .xorPs rd ra rb, .xorPd rd ra rb, .xorCmpPi32 rd ra rb,
       .xorCmpPi64 rd ra rb, .xorCmpPs rd ra rb, .xorCmpPd rd ra rb],
      CompletesV i s rd fun r => ∀ n < 128, r.getLsbD n = ((readV s ra).getLsbD n ^^ (readV s rb).getLsbD n)) ∧
    (∀ i ∈ [Instr.cmpeqCmpPi32 rd ra rb, .cmpeqCmpPi64 rd ra rb, .cmpeqCmpPs rd ra rb, .cmpeqCmpPd rd ra rb],
      CompletesV i s rd fun r => ∀ n < 128, r.getLsbD n = !((readV s ra).getLsbD n ^^ (readV s rb).getLsbD n)) ∧
    (∀ i ∈ [Instr.notPi32 rd ra, .notPi64 rd ra, .notPs rd ra, .notPd rd ra, .notCmpPi32 rd ra, .notCmpPi64 rd ra,
       .notCmpPs rd ra, .notCmpPd rd ra],
      CompletesV i s rd fun r => ∀ n < 128, r.getLsbD n = !(readV s ra).getLsbD n)

/-- O43. Shifts by an immediate: multiply modulo 2^W, divide, or divide the signed number rounding to minus infinity
(R211, R212, R213). -/
def Obligations.ShiftByImmediate : Prop :=
  ∀ (s : State) (rd ra : VReg) (imm8 : Byte),
    (imm8.toNat < 32 →
      CompletesV (.slImmPi32 rd ra imm8) s rd
        (Lanes32 fun j r => r.toNat = (v32 s ra j).toNat * 2 ^ imm8.toNat % 2 ^ 32) ∧
      CompletesV (.srlImmPi32 rd ra imm8) s rd (Lanes32 fun j r => r.toNat = (v32 s ra j).toNat / 2 ^ imm8.toNat) ∧
      CompletesV (.sraImmPi32 rd ra imm8) s rd
        (Lanes32 fun j r => r.toInt = ⌊((v32 s ra j).toInt : ℚ) / 2 ^ imm8.toNat⌋)) ∧
    (imm8.toNat < 64 →
      CompletesV (.slImmPi64 rd ra imm8) s rd
        (Lanes64 fun j r => r.toNat = (v64 s ra j).toNat * 2 ^ imm8.toNat % 2 ^ 64) ∧
      CompletesV (.srlImmPi64 rd ra imm8) s rd (Lanes64 fun j r => r.toNat = (v64 s ra j).toNat / 2 ^ imm8.toNat) ∧
      CompletesV (.sraImmPi64 rd ra imm8) s rd
        (Lanes64 fun j r => r.toInt = ⌊((v64 s ra j).toInt : ℚ) / 2 ^ imm8.toNat⌋))

/-- O44. Each lane is shifted by its own count where that count is 0..W-1; other lanes are open; nothing faults (R215,
R216, R217, R218, R219). -/
def Obligations.ShiftByVectorAmount : Prop :=
  ∀ (s : State) (rd ra rb : VReg),
    CompletesV (.slPi32 rd ra rb) s rd (Lanes32 fun j r =>
      (v32 s rb j).toNat ≤ 31 → r.toNat = (v32 s ra j).toNat * 2 ^ (v32 s rb j).toNat % 2 ^ 32) ∧
    CompletesV (.srlPi32 rd ra rb) s rd (Lanes32 fun j r =>
      (v32 s rb j).toNat ≤ 31 → r.toNat = (v32 s ra j).toNat / 2 ^ (v32 s rb j).toNat) ∧
    CompletesV (.sraPi32 rd ra rb) s rd (Lanes32 fun j r =>
      (v32 s rb j).toNat ≤ 31 → r.toInt = ⌊((v32 s ra j).toInt : ℚ) / 2 ^ (v32 s rb j).toNat⌋) ∧
    CompletesV (.slPi64 rd ra rb) s rd (Lanes64 fun j r =>
      (v64 s rb j).toNat ≤ 63 → r.toNat = (v64 s ra j).toNat * 2 ^ (v64 s rb j).toNat % 2 ^ 64) ∧
    CompletesV (.srlPi64 rd ra rb) s rd (Lanes64 fun j r =>
      (v64 s rb j).toNat ≤ 63 → r.toNat = (v64 s ra j).toNat / 2 ^ (v64 s rb j).toNat) ∧
    CompletesV (.sraPi64 rd ra rb) s rd (Lanes64 fun j r =>
      (v64 s rb j).toNat ≤ 63 → r.toInt = ⌊((v64 s ra j).toInt : ℚ) / 2 ^ (v64 s rb j).toNat⌋)

/-- O45. The two shift forms agree, a left shift is a multiply by a power of two, and the right shifts agree on lanes
that are not negative (R220). -/
def Obligations.ShiftFormsAgree : Prop :=
  ∀ (s : State) (rd ra rb : VReg) (imm8 : Byte),
    (imm8.toNat < 32 →
      ((∀ j < 4, (v32 s rb j).toNat = imm8.toNat) →
        ∀ p ∈ [(Instr.slPi32 rd ra rb, Instr.slImmPi32 rd ra imm8), (.srlPi32 rd ra rb, .srlImmPi32 rd ra imm8),
            (.sraPi32 rd ra rb, .sraImmPi32 rd ra imm8)],
          ∃ t, exec p.1 s = .next t ∧ CompletesV p.2 s rd fun r => r = readV t rd) ∧
      ((∀ j < 4, (v32 s rb j).toNat = 2 ^ imm8.toNat) →
        ∃ t, exec (.mulPi32 rd ra rb) s = .next t ∧ CompletesV (.slImmPi32 rd ra imm8) s rd fun r => r = readV t rd) ∧
      ∃ t, exec (.srlImmPi32 rd ra imm8) s = .next t ∧ CompletesV (.sraImmPi32 rd ra imm8) s rd
        (Lanes32 fun j r => (v32 s ra j).msb = false → r = v32 t rd j)) ∧
    (imm8.toNat < 64 →
      ((∀ j < 2, (v64 s rb j).toNat = imm8.toNat) →
        ∀ p ∈ [(Instr.slPi64 rd ra rb, Instr.slImmPi64 rd ra imm8), (.srlPi64 rd ra rb, .srlImmPi64 rd ra imm8),
            (.sraPi64 rd ra rb, .sraImmPi64 rd ra imm8)],
          ∃ t, exec p.1 s = .next t ∧ CompletesV p.2 s rd fun r => r = readV t rd) ∧
      ((∀ j < 2, (v64 s rb j).toNat = 2 ^ imm8.toNat) →
        ∃ t, exec (.mulPi64 rd ra rb) s = .next t ∧ CompletesV (.slImmPi64 rd ra imm8) s rd fun r => r = readV t rd) ∧
      ∃ t, exec (.srlImmPi64 rd ra imm8) s = .next t ∧ CompletesV (.sraImmPi64 rd ra imm8) s rd
        (Lanes64 fun j r => (v64 s ra j).msb = false → r = v64 t rd j))

/-- O46. The six compares follow the lanes' values; float -0 equals +0, and every relation but not-equal is false on
NaN (R16, R226, R227, R228, R229, R230, R231). -/
def Obligations.ComparesFollowTheValues : Prop :=
  (∀ (s : State) (rd ra rb : VReg),
    CompletesV (.cmpltPs rd ra rb) s rd (Lanes32 fun j r => TruthLane
      (isNaN (v32 s ra j) = false ∧ isNaN (v32 s rb j) = false ∧
        extVal (v32 s ra j) < extVal (v32 s rb j)) r) ∧
    CompletesV (.cmplePs rd ra rb) s rd (Lanes32 fun j r => TruthLane
      (isNaN (v32 s ra j) = false ∧ isNaN (v32 s rb j) = false ∧
        extVal (v32 s ra j) ≤ extVal (v32 s rb j)) r) ∧
    CompletesV (.cmpeqPs rd ra rb) s rd (Lanes32 fun j r => TruthLane
      (isNaN (v32 s ra j) = false ∧ isNaN (v32 s rb j) = false ∧
        extVal (v32 s ra j) = extVal (v32 s rb j)) r) ∧
    CompletesV (.cmpneqPs rd ra rb) s rd (Lanes32 fun j r => TruthLane
      (isNaN (v32 s ra j) = true ∨ isNaN (v32 s rb j) = true ∨
        extVal (v32 s ra j) ≠ extVal (v32 s rb j)) r) ∧
    CompletesV (.cmpgePs rd ra rb) s rd (Lanes32 fun j r => TruthLane
      (isNaN (v32 s ra j) = false ∧ isNaN (v32 s rb j) = false ∧
        extVal (v32 s ra j) ≥ extVal (v32 s rb j)) r) ∧
    CompletesV (.cmpgtPs rd ra rb) s rd (Lanes32 fun j r => TruthLane
      (isNaN (v32 s ra j) = false ∧ isNaN (v32 s rb j) = false ∧
        extVal (v32 s ra j) > extVal (v32 s rb j)) r) ∧
    CompletesV (.cmpltPd rd ra rb) s rd (Lanes64 fun j r => TruthLane
      (isNaN (v64 s ra j) = false ∧ isNaN (v64 s rb j) = false ∧
        extVal (v64 s ra j) < extVal (v64 s rb j)) r) ∧
    CompletesV (.cmplePd rd ra rb) s rd (Lanes64 fun j r => TruthLane
      (isNaN (v64 s ra j) = false ∧ isNaN (v64 s rb j) = false ∧
        extVal (v64 s ra j) ≤ extVal (v64 s rb j)) r) ∧
    CompletesV (.cmpeqPd rd ra rb) s rd (Lanes64 fun j r => TruthLane
      (isNaN (v64 s ra j) = false ∧ isNaN (v64 s rb j) = false ∧
        extVal (v64 s ra j) = extVal (v64 s rb j)) r) ∧
    CompletesV (.cmpneqPd rd ra rb) s rd (Lanes64 fun j r => TruthLane
      (isNaN (v64 s ra j) = true ∨ isNaN (v64 s rb j) = true ∨
        extVal (v64 s ra j) ≠ extVal (v64 s rb j)) r) ∧
    CompletesV (.cmpgePd rd ra rb) s rd (Lanes64 fun j r => TruthLane
      (isNaN (v64 s ra j) = false ∧ isNaN (v64 s rb j) = false ∧
        extVal (v64 s ra j) ≥ extVal (v64 s rb j)) r) ∧
    CompletesV (.cmpgtPd rd ra rb) s rd (Lanes64 fun j r => TruthLane
      (isNaN (v64 s ra j) = false ∧ isNaN (v64 s rb j) = false ∧
        extVal (v64 s ra j) > extVal (v64 s rb j)) r)) ∧
  ∀ (s : State) (rd ra rb : VReg),
    CompletesV (.cmpltPi32 rd ra rb) s rd (Lanes32 fun j r => TruthLane ((v32 s ra j).toInt < (v32 s rb j).toInt) r) ∧
    CompletesV (.cmplePi32 rd ra rb) s rd (Lanes32 fun j r => TruthLane ((v32 s ra j).toInt ≤ (v32 s rb j).toInt) r) ∧
    CompletesV (.cmpeqPi32 rd ra rb) s rd (Lanes32 fun j r => TruthLane ((v32 s ra j).toInt = (v32 s rb j).toInt) r) ∧
    CompletesV (.cmpneqPi32 rd ra rb) s rd (Lanes32 fun j r => TruthLane ((v32 s ra j).toInt ≠ (v32 s rb j).toInt) r) ∧
    CompletesV (.cmpgePi32 rd ra rb) s rd (Lanes32 fun j r => TruthLane ((v32 s ra j).toInt ≥ (v32 s rb j).toInt) r) ∧
    CompletesV (.cmpgtPi32 rd ra rb) s rd (Lanes32 fun j r => TruthLane ((v32 s ra j).toInt > (v32 s rb j).toInt) r) ∧
    CompletesV (.cmpltPi64 rd ra rb) s rd (Lanes64 fun j r => TruthLane ((v64 s ra j).toInt < (v64 s rb j).toInt) r) ∧
    CompletesV (.cmplePi64 rd ra rb) s rd (Lanes64 fun j r => TruthLane ((v64 s ra j).toInt ≤ (v64 s rb j).toInt) r) ∧
    CompletesV (.cmpeqPi64 rd ra rb) s rd (Lanes64 fun j r => TruthLane ((v64 s ra j).toInt = (v64 s rb j).toInt) r) ∧
    CompletesV (.cmpneqPi64 rd ra rb) s rd (Lanes64 fun j r => TruthLane ((v64 s ra j).toInt ≠ (v64 s rb j).toInt) r) ∧
    CompletesV (.cmpgePi64 rd ra rb) s rd (Lanes64 fun j r => TruthLane ((v64 s ra j).toInt ≥ (v64 s rb j).toInt) r) ∧
    CompletesV (.cmpgtPi64 rd ra rb) s rd (Lanes64 fun j r => TruthLane ((v64 s ra j).toInt > (v64 s rb j).toInt) r)

/-- O47. cvtcmp between widths duplicates the low two lanes, or keeps the low halves with zeros above (R240, R241). -/
def Obligations.MaskConversions : Prop :=
  ∀ (s : State) (rd ra : VReg),
    (∀ i ∈ [Instr.cvtcmpPi32Pi64 rd ra, .cvtcmpPi32Pd rd ra, .cvtcmpPsPi64 rd ra, .cvtcmpPsPd rd ra],
      CompletesV i s rd (Lanes64 fun j r => r = v32 s ra j ++ v32 s ra j)) ∧
    (∀ i ∈ [Instr.cvtcmpPi64Pi32 rd ra, .cvtcmpPi64Ps rd ra, .cvtcmpPdPi32 rd ra, .cvtcmpPdPs rd ra],
      CompletesV i s rd (LowLanes32 fun j r => r.toNat = (v64 s ra j).toNat % 2 ^ 32))

/-- O48. Trichotomy and complements of the compares, and the mask conversions there and back (R229, R230, R243). -/
def Obligations.CompareAndMaskIdentities : Prop :=
  (∀ (s : State) (rd ra rb : VReg),
    ∃ lt le eq ne ge gt, exec (.cmpltPi32 rd ra rb) s = .next lt ∧ exec (.cmplePi32 rd ra rb) s = .next le ∧
      exec (.cmpeqPi32 rd ra rb) s = .next eq ∧ exec (.cmpneqPi32 rd ra rb) s = .next ne ∧
      exec (.cmpgePi32 rd ra rb) s = .next ge ∧ exec (.cmpgtPi32 rd ra rb) s = .next gt ∧
      readV le rd = ~~~readV gt rd ∧ readV ge rd = ~~~readV lt rd ∧ readV ne rd = ~~~readV eq rd ∧
      readV lt rd ^^^ readV eq rd ^^^ readV gt rd = BitVec.allOnes 128 ∧ readV lt rd &&& readV eq rd = 0 ∧
      readV lt rd &&& readV gt rd = 0 ∧ readV eq rd &&& readV gt rd = 0) ∧
  (∀ (s : State) (rd ra rb : VReg),
    ∃ lt le eq ne ge gt, exec (.cmpltPi64 rd ra rb) s = .next lt ∧ exec (.cmplePi64 rd ra rb) s = .next le ∧
      exec (.cmpeqPi64 rd ra rb) s = .next eq ∧ exec (.cmpneqPi64 rd ra rb) s = .next ne ∧
      exec (.cmpgePi64 rd ra rb) s = .next ge ∧ exec (.cmpgtPi64 rd ra rb) s = .next gt ∧
      readV le rd = ~~~readV gt rd ∧ readV ge rd = ~~~readV lt rd ∧ readV ne rd = ~~~readV eq rd ∧
      readV lt rd ^^^ readV eq rd ^^^ readV gt rd = BitVec.allOnes 128 ∧ readV lt rd &&& readV eq rd = 0 ∧
      readV lt rd &&& readV gt rd = 0 ∧ readV eq rd &&& readV gt rd = 0) ∧
  (∀ (s : State) (rd ra rb : VReg),
    ∃ lt le eq ne ge gt, exec (.cmpltPs rd ra rb) s = .next lt ∧ exec (.cmplePs rd ra rb) s = .next le ∧
      exec (.cmpeqPs rd ra rb) s = .next eq ∧ exec (.cmpneqPs rd ra rb) s = .next ne ∧
      exec (.cmpgePs rd ra rb) s = .next ge ∧ exec (.cmpgtPs rd ra rb) s = .next gt ∧
      readV ne rd = ~~~readV eq rd ∧
      ∀ j < 4,
        (isNaN (v32 s ra j) = false ∧ isNaN (v32 s rb j) = false →
          v32 le rd j = ~~~v32 gt rd j ∧ v32 ge rd j = ~~~v32 lt rd j ∧
          v32 lt rd j ^^^ v32 eq rd j ^^^ v32 gt rd j = BitVec.allOnes 32 ∧ v32 lt rd j &&& v32 eq rd j = 0 ∧
          v32 lt rd j &&& v32 gt rd j = 0 ∧ v32 eq rd j &&& v32 gt rd j = 0) ∧
        (isNaN (v32 s ra j) = true ∨ isNaN (v32 s rb j) = true →
          v32 lt rd j = 0 ∧ v32 le rd j = 0 ∧ v32 eq rd j = 0 ∧ v32 ge rd j = 0 ∧ v32 gt rd j = 0)) ∧
  (∀ (s : State) (rd ra rb : VReg),
    ∃ lt le eq ne ge gt, exec (.cmpltPd rd ra rb) s = .next lt ∧ exec (.cmplePd rd ra rb) s = .next le ∧
      exec (.cmpeqPd rd ra rb) s = .next eq ∧ exec (.cmpneqPd rd ra rb) s = .next ne ∧
      exec (.cmpgePd rd ra rb) s = .next ge ∧ exec (.cmpgtPd rd ra rb) s = .next gt ∧
      readV ne rd = ~~~readV eq rd ∧
      ∀ j < 2,
        (isNaN (v64 s ra j) = false ∧ isNaN (v64 s rb j) = false →
          v64 le rd j = ~~~v64 gt rd j ∧ v64 ge rd j = ~~~v64 lt rd j ∧
          v64 lt rd j ^^^ v64 eq rd j ^^^ v64 gt rd j = BitVec.allOnes 64 ∧ v64 lt rd j &&& v64 eq rd j = 0 ∧
          v64 lt rd j &&& v64 gt rd j = 0 ∧ v64 eq rd j &&& v64 gt rd j = 0) ∧
        (isNaN (v64 s ra j) = true ∨ isNaN (v64 s rb j) = true →
          v64 lt rd j = 0 ∧ v64 le rd j = 0 ∧ v64 eq rd j = 0 ∧ v64 ge rd j = 0 ∧ v64 gt rd j = 0)) ∧
  (∀ (s : State) (rd rq ra : VReg), ∃ t u, exec (.cvtcmpPi32Pi64 rq ra) s = .next t ∧
    exec (.cvtcmpPi64Pi32 rd rq) t = .next u ∧
    v32 u rd 0 = v32 s ra 0 ∧ v32 u rd 1 = v32 s ra 1 ∧ v32 u rd 2 = 0 ∧ v32 u rd 3 = 0)

/-- O49. choose takes t where the mask lane is all ones and f where it is all zeros; choose_else_zero takes zero there
(R256, R257, R258). -/
def Obligations.ChooseFollowsTheMask : Prop :=
  ∀ (s : State) (rd ra rb rc : VReg),
    (∀ i ∈ [Instr.choosePi32 rd ra rb rc, .choosePs rd ra rb rc],
      CompletesV i s rd (Lanes32 fun j r =>
        (v32 s ra j = BitVec.allOnes 32 → r = v32 s rb j) ∧ (v32 s ra j = 0 → r = v32 s rc j))) ∧
    (∀ i ∈ [Instr.choosePi64 rd ra rb rc, .choosePd rd ra rb rc],
      CompletesV i s rd (Lanes64 fun j r =>
        (v64 s ra j = BitVec.allOnes 64 → r = v64 s rb j) ∧ (v64 s ra j = 0 → r = v64 s rc j))) ∧
    (∀ i ∈ [Instr.chooseElseZeroPi32 rd ra rb, .chooseElseZeroPs rd ra rb],
      CompletesV i s rd (Lanes32 fun j r =>
        (v32 s ra j = BitVec.allOnes 32 → r = v32 s rb j) ∧ (v32 s ra j = 0 → r = 0))) ∧
    (∀ i ∈ [Instr.chooseElseZeroPi64 rd ra rb, .chooseElseZeroPd rd ra rb],
      CompletesV i s rd (Lanes64 fun j r =>
        (v64 s ra j = BitVec.allOnes 64 → r = v64 s rb j) ∧ (v64 s ra j = 0 → r = 0)))

/-- O50. Integer min, max and constrain on signed lanes; constrain is min(max(lo, x), hi), also with reversed bounds
(R259, R260, R264). -/
def Obligations.IntegerMinMaxConstrain : Prop :=
  ∀ (s : State) (rd ra rb rc : VReg),
    CompletesV (.minPi32 rd ra rb) s rd (Lanes32 fun j r => r.toInt = min (v32 s ra j).toInt (v32 s rb j).toInt) ∧
    CompletesV (.minPi64 rd ra rb) s rd (Lanes64 fun j r => r.toInt = min (v64 s ra j).toInt (v64 s rb j).toInt) ∧
    CompletesV (.maxPi32 rd ra rb) s rd (Lanes32 fun j r => r.toInt = max (v32 s ra j).toInt (v32 s rb j).toInt) ∧
    CompletesV (.maxPi64 rd ra rb) s rd (Lanes64 fun j r => r.toInt = max (v64 s ra j).toInt (v64 s rb j).toInt) ∧
    CompletesV (.constrainPi32 rd ra rb rc) s rd
      (Lanes32 fun j r => r.toInt = min (max (v32 s ra j).toInt (v32 s rc j).toInt) (v32 s rb j).toInt) ∧
    CompletesV (.constrainPi64 rd ra rb rc) s rd
      (Lanes64 fun j r => r.toInt = min (max (v64 s ra j).toInt (v64 s rc j).toInt) (v64 s rb j).toInt)

/-- O51. min_fast and max_fast give the smaller and the larger operand's bits; zeros of opposite sign give a zero; NaN
lanes are open (R261, R262, R263). -/
def Obligations.FloatMinMaxFast : Prop :=
  ∀ (s : State) (rd ra rb : VReg),
    CompletesV (.minFastPs rd ra rb) s rd (Lanes32 fun j r => MinFastResult (v32 s ra j) (v32 s rb j) r) ∧
    CompletesV (.minFastPd rd ra rb) s rd (Lanes64 fun j r => MinFastResult (v64 s ra j) (v64 s rb j) r) ∧
    CompletesV (.maxFastPs rd ra rb) s rd (Lanes32 fun j r => MaxFastResult (v32 s ra j) (v32 s rb j) r) ∧
    CompletesV (.maxFastPd rd ra rb) s rd (Lanes64 fun j r => MaxFastResult (v64 s ra j) (v64 s rb j) r)

/-- O52. Float constrain is min_fast of max_fast(lo, x) and hi, and clamps x wherever the pairs it compares are not
open (R261, R262, R263, R265). -/
def Obligations.FloatConstrain : Prop :=
  ∀ (s : State) (rd ra rb rc : VReg),
    CompletesV (.constrainPs rd ra rb rc) s rd
      (Lanes32 fun j r => ConstrainFastResult (v32 s ra j) (v32 s rb j) (v32 s rc j) r) ∧
    CompletesV (.constrainPd rd ra rb rc) s rd
      (Lanes64 fun j r => ConstrainFastResult (v64 s ra j) (v64 s rb j) (v64 s rc j) r)

/-- O53. Widening integer convert sign-extends the low two lanes; narrowing truncates and zeroes the upper two lanes
(R281, R282). -/
def Obligations.ConvertIntegerToInteger : Prop :=
  ∀ (s : State) (rd ra : VReg),
    CompletesV (.cvtPi32Pi64 rd ra) s rd (Lanes64 fun j r => r.toInt = (v32 s ra j).toInt) ∧
    CompletesV (.cvtPi64Pi32 rd ra) s rd (LowLanes32 fun j r => r.toNat = (v64 s ra j).toNat % 2 ^ 32)

/-- O54. Integer to float converts round the integer once, to nearest even; pi32 to pd is exact (R283, R284, R285,
R286). -/
def Obligations.ConvertIntegerToFloat : Prop :=
  ∀ (s : State) (rd ra : VReg),
    CompletesV (.cvtPi32Ps rd ra) s rd (Lanes32 fun j r => FromIntResult (v32 s ra j).toInt r) ∧
    CompletesV (.cvtPi32Pd rd ra) s rd (Lanes64 fun j r =>
      FromIntResult (v32 s ra j).toInt r ∧ Finite r ∧ val r = (v32 s ra j).toInt) ∧
    CompletesV (.cvtPi64Ps rd ra) s rd (LowLanes32 fun j r => FromIntResult (v64 s ra j).toInt r) ∧
    CompletesV (.cvtPi64Pd rd ra) s rd (Lanes64 fun j r => FromIntResult (v64 s ra j).toInt r)

/-- O55. cvt, cvtt and cvtf round the exact value to nearest even, toward zero and toward minus infinity (R287, R288,
R289, R290, R291, R292, R293). -/
def Obligations.ConvertFloatToInteger : Prop :=
  ∀ (s : State) (rd ra : VReg),
    (∀ p ∈ [(Rounding.rne, Instr.cvtPsPi32 rd ra), (.trunc, .cvttPsPi32 rd ra), (.floor, .cvtfPsPi32 rd ra)],
      CompletesV p.2 s rd (Lanes32 fun j r => ToIntResult p.1 (v32 s ra j) r)) ∧
    (∀ p ∈ [(Rounding.rne, Instr.cvtPsPi64 rd ra), (.trunc, .cvttPsPi64 rd ra), (.floor, .cvtfPsPi64 rd ra)],
      CompletesV p.2 s rd (Lanes64 fun j r => ToIntResult p.1 (v32 s ra j) r)) ∧
    (∀ p ∈ [(Rounding.rne, Instr.cvtPdPi32 rd ra), (.trunc, .cvttPdPi32 rd ra), (.floor, .cvtfPdPi32 rd ra)],
      CompletesV p.2 s rd (LowLanes32 fun j r => ToIntResult p.1 (v64 s ra j) r)) ∧
    (∀ p ∈ [(Rounding.rne, Instr.cvtPdPi64 rd ra), (.trunc, .cvttPdPi64 rd ra), (.floor, .cvtfPdPi64 rd ra)],
      CompletesV p.2 s rd (Lanes64 fun j r => ToIntResult p.1 (v64 s ra j) r))

/-- O56. ps to pd is exact on the low two lanes; pd to ps rounds to nearest even into the low two lanes, zeros above
(R294, R295). -/
def Obligations.ConvertFloatToFloat : Prop :=
  ∀ (s : State) (rd ra : VReg),
    CompletesV (.cvtPsPd rd ra) s rd (Lanes64 fun j r => ResizeResult (v32 s ra j) r ∧
      (Finite (v32 s ra j) → Finite r ∧ val r = val (v32 s ra j))) ∧
    CompletesV (.cvtPdPs rd ra) s rd (LowLanes32 fun j r => ResizeResult (v64 s ra j) r)

/-- O57. Converting to float and back recovers every representable integer, and widening then narrowing every non-NaN
float (R296). -/
def Obligations.ConvertRoundTrips : Prop :=
  ∀ (s : State) (rd rq ra : VReg),
    (∀ i ∈ [Instr.cvtPsPi32 rd rq, .cvttPsPi32 rd rq, .cvtfPsPi32 rd rq], ∃ t u, exec (.cvtPi32Ps rq ra) s = .next t ∧
      exec i t = .next u ∧ ∀ j < 4, 
        (∃ b : BitVec 32, Finite b ∧ val b = (v32 s ra j).toInt) → v32 u rd j = v32 s ra j) ∧
    (∀ i ∈ [Instr.cvtPdPi64 rd rq, .cvttPdPi64 rd rq, .cvtfPdPi64 rd rq], ∃ t u, exec (.cvtPi64Pd rq ra) s = .next t ∧
      exec i t = .next u ∧ ∀ j < 2, 
        (∃ b : BitVec 64, Finite b ∧ val b = (v64 s ra j).toInt) → v64 u rd j = v64 s ra j) ∧
    (∀ i ∈ [Instr.cvtPdPi32 rd rq, .cvttPdPi32 rd rq, .cvtfPdPi32 rd rq], ∃ t u, exec (.cvtPi32Pd rq ra) s = .next t ∧
      exec i t = .next u ∧ ∀ j < 2, v32 u rd j = v32 s ra j) ∧
    ∃ t u, exec (.cvtPsPd rq ra) s = .next t ∧ exec (.cvtPdPs rd rq) t = .next u ∧
      (∀ j < 2, isNaN (v32 s ra j) = false → v32 u rd j = v32 s ra j) ∧ v32 u rd 2 = 0 ∧ v32 u rd 3 = 0

/-- O58. START runs a halted block and is ignored otherwise; the host's writes change exactly what they name; STATUS
reads RS and BK (R325, R26). A byte range that leaves the memory is turned away whole: log 19 (DEDUCED). The refusals
while RUNNING are the model's choice, log 12. START empties the model's own note of the run's stores, log 21. -/
def Obligations.HostMovesWriteWhatTheySay : Prop :=
  (∀ s : State, (s.rs = .halted → hostMove .start s = .next { s with rs := .running, runStores := [] }) ∧
    (s.rs ≠ .halted → hostMove .start s = .next s)) ∧
  (∀ s : State, s.rs ≠ .running →
    (∀ x, hostMove (.writePc x) s = .next { s with pc := x }) ∧
    (∀ r x, ∃ t, hostMove (.writeV r x) s = .next t ∧ readV t r = x ∧ (∀ q, q ≠ r → readV t q = readV s q) ∧
      t = { s with v := t.v }) ∧
    (∀ r x, ∃ t, hostMove (.writeS r x) s = .next t ∧ readS t r = x ∧ (∀ q, q ≠ r → readS t q = readS s q) ∧
      t = { s with s := t.s }) ∧
    (∀ addr bytes, ∃ t, hostMove (.writeData addr bytes) s = .next t ∧ t = { s with dmem := t.dmem } ∧
      (addr + bytes.length ≤ s.params.memSize → ∀ a, readCell t.dmem a =
        if addr ≤ a ∧ a < addr + bytes.length then bytes[a - addr]? else readCell s.dmem a) ∧
      (s.params.memSize < addr + bytes.length → t = s)) ∧
    (∀ addr bytes, ∃ t, hostMove (.writeInstr addr bytes) s = .next t ∧ t = { s with imem := t.imem } ∧
      (addr + bytes.length ≤ s.params.imemSize → ∀ a, readCell t.imem a =
        if addr ≤ a ∧ a < addr + bytes.length then bytes[a - addr]? else readCell s.imem a) ∧
      (s.params.imemSize < addr + bytes.length → t = s))) ∧
  (∀ (s : State) (x : Word) (r : VReg) (y : Vec) (q : SReg) (z : Scalar) (addr : Nat) (bytes : List Byte),
    s.rs = .running →
    ∀ m ∈ [HostMove.writePc x, .writeV r y, .writeS q z, .writeData addr bytes, .writeInstr addr bytes],
      hostMove m s = .refused .hostMoveWhileRunning) ∧
  ∀ s : State, (statusWord s).toNat = (runStateCode s.rs).toNat + 4 * (backendCode s.params.backend).toNat ∧
    (causeWord s).toNat = s.cause.toNat

/-- O59. Every host move keeps the invariant of the machine (R41, R42, R314, R325, R326). -/
def Obligations.HostMovesKeepTheInvariant : Prop :=
  ∀ (m : HostMove) (s t : State), s.Inv → hostMove m s = .next t → t.Inv

/-- O60. Field k of the host's aggregate view of a register is lane k, and the view written back is the register
(R30). -/
def Obligations.AggregateViewsRoundTrip : Prop :=
  (∀ x : Vec, (getGenericPi32 x).i3 = (x.extractLsb' 96 32).toInt ∧
    (getGenericPi32 x).i2 = (x.extractLsb' 64 32).toInt ∧ (getGenericPi32 x).i1 = (x.extractLsb' 32 32).toInt ∧
    (getGenericPi32 x).i0 = (x.extractLsb' 0 32).toInt ∧
    (getGenericPi64 x).l1 = (x.extractLsb' 64 64).toInt ∧ (getGenericPi64 x).l0 = (x.extractLsb' 0 64).toInt ∧
    (getGenericPs x).f3 = x.extractLsb' 96 32 ∧ (getGenericPs x).f2 = x.extractLsb' 64 32 ∧
    (getGenericPs x).f1 = x.extractLsb' 32 32 ∧ (getGenericPs x).f0 = x.extractLsb' 0 32 ∧
    (getGenericPd x).d1 = x.extractLsb' 64 64 ∧ (getGenericPd x).d0 = x.extractLsb' 0 64) ∧
  (∀ x : Vec, ofGenericPi32 (getGenericPi32 x) = x ∧ ofGenericPi64 (getGenericPi64 x) = x ∧
    ofGenericPs (getGenericPs x) = x ∧ ofGenericPd (getGenericPd x) = x) ∧
  (∀ x : Vec, MaskField (x.extractLsb' 96 32) (getGenericMask4 x).b3 ∧
    MaskField (x.extractLsb' 64 32) (getGenericMask4 x).b2 ∧ MaskField (x.extractLsb' 32 32) (getGenericMask4 x).b1 ∧
    MaskField (x.extractLsb' 0 32) (getGenericMask4 x).b0 ∧ MaskField (x.extractLsb' 64 64) (getGenericMask2 x).b1 ∧
    MaskField (x.extractLsb' 0 64) (getGenericMask2 x).b0) ∧
  (∀ b3 b2 b1 b0 : Bool, getGenericMask4 (ofGenericMask4 b3 b2 b1 b0) = ⟨some b3, some b2, some b1, some b0⟩) ∧
  ∀ b1 b0 : Bool, getGenericMask2 (ofGenericMask2 b1 b0) = ⟨some b1, some b0⟩
end

