-- ==== Sys2Proof/Laws/Decode.lean ====
section
/-!
SUPPORT. The fields of an instruction word: each field of `wordOf` can be read back.
-/

namespace Sys2Proof

/-- The fields of a written word are the fields it was written from (R61). -/
theorem fieldsOf_wordOf (op : BitVec 8) (k k2 : BitVec 2) (rd ra rb : Fin 16) (lo8 : Byte) :
    fieldsOf (wordOf op k k2 rd ra rb lo8) =
      { op := op.toNat, k := k.toNat, k2 := k2.toNat, rd := rd, ra := ra, rb := rb,
        rc := (lo8.extractLsb' 4 4).toFin, re := (lo8.extractLsb' 0 4).toFin, imm8 := lo8 } := by
  have h1 : (wordOf op k k2 rd ra rb lo8).extractLsb' 24 8 = op := by
    unfold wordOf; ext i hi; simp only [BitVec.getElem_extractLsb', BitVec.getLsbD_append]; grind
  have h2 : (wordOf op k k2 rd ra rb lo8).extractLsb' 22 2 = k := by
    unfold wordOf; ext i hi; simp only [BitVec.getElem_extractLsb', BitVec.getLsbD_append]; grind
  have h3 : (wordOf op k k2 rd ra rb lo8).extractLsb' 20 2 = k2 := by
    unfold wordOf; ext i hi; simp only [BitVec.getElem_extractLsb', BitVec.getLsbD_append]; grind
  have h4 : (wordOf op k k2 rd ra rb lo8).extractLsb' 16 4 = BitVec.ofFin rd := by
    unfold wordOf; ext i hi; simp only [BitVec.getElem_extractLsb', BitVec.getLsbD_append]; grind
  have h5 : (wordOf op k k2 rd ra rb lo8).extractLsb' 12 4 = BitVec.ofFin ra := by
    unfold wordOf; ext i hi; simp only [BitVec.getElem_extractLsb', BitVec.getLsbD_append]; grind
  have h6 : (wordOf op k k2 rd ra rb lo8).extractLsb' 8 4 = BitVec.ofFin rb := by
    unfold wordOf; ext i hi; simp only [BitVec.getElem_extractLsb', BitVec.getLsbD_append]; grind
  have h7 : (wordOf op k k2 rd ra rb lo8).extractLsb' 4 4 = lo8.extractLsb' 4 4 := by
    unfold wordOf; ext i hi; simp only [BitVec.getElem_extractLsb', BitVec.getLsbD_append]; grind
  have h8 : (wordOf op k k2 rd ra rb lo8).extractLsb' 0 4 = lo8.extractLsb' 0 4 := by
    unfold wordOf; ext i hi; simp only [BitVec.getElem_extractLsb', BitVec.getLsbD_append]; grind
  have h9 : (wordOf op k k2 rd ra rb lo8).extractLsb' 0 8 = lo8 := by
    unfold wordOf; ext i hi; simp only [BitVec.getElem_extractLsb', BitVec.getLsbD_append]; grind
  simp only [fieldsOf, h1, h2, h3, h4, h5, h6, h7, h8, h9]

/-- The two register fields of the low byte can be read back (R61). -/
theorem regPair_rc (rc re : Fin 16) : ((regPair rc re).extractLsb' 4 4).toFin = rc := by
  revert rc re; decide

theorem regPair_re (rc re : Fin 16) : ((regPair rc re).extractLsb' 0 4).toFin = re := by
  revert rc re; decide

/-- A word is the word of its fields (R61): every bit belongs to a field. -/
theorem wordOf_fields (w : Word) :
    wordOf (w.extractLsb' 24 8) (w.extractLsb' 22 2) (w.extractLsb' 20 2) (w.extractLsb' 16 4).toFin
      (w.extractLsb' 12 4).toFin (w.extractLsb' 8 4).toFin (w.extractLsb' 0 8) = w := by
  unfold wordOf
  ext i hi
  rw [← BitVec.getLsbD_eq_getElem, ← BitVec.getLsbD_eq_getElem]
  simp only [BitVec.getLsbD_append, BitVec.ofFin_toFin, BitVec.getLsbD_extractLsb']
  grind

end Sys2Proof
end

