-- ==== Sys2Proof/Laws/State.lean ====
section
/-!
SUPPORT. One lemma per field of the state and per named update of it, so that no later proof unfolds a record update.
-/

namespace Sys2Proof.Machine

@[simp] theorem writeV_v (st : State) (r : VReg) (x : Vec) : (writeV st r x).v = st.v.set r x := rfl

@[simp] theorem writeV_s (st : State) (r : VReg) (x : Vec) : (writeV st r x).s = st.s := rfl

@[simp] theorem writeV_pc (st : State) (r : VReg) (x : Vec) : (writeV st r x).pc = st.pc := rfl

@[simp] theorem writeV_rs (st : State) (r : VReg) (x : Vec) : (writeV st r x).rs = st.rs := rfl

@[simp] theorem writeV_cause (st : State) (r : VReg) (x : Vec) : (writeV st r x).cause = st.cause := rfl

@[simp] theorem writeV_fpc (st : State) (r : VReg) (x : Vec) : (writeV st r x).fpc = st.fpc := rfl

@[simp] theorem writeV_finfo (st : State) (r : VReg) (x : Vec) : (writeV st r x).finfo = st.finfo := rfl

@[simp] theorem writeV_dmem (st : State) (r : VReg) (x : Vec) : (writeV st r x).dmem = st.dmem := rfl

@[simp] theorem writeV_imem (st : State) (r : VReg) (x : Vec) : (writeV st r x).imem = st.imem := rfl

@[simp] theorem writeV_params (st : State) (r : VReg) (x : Vec) : (writeV st r x).params = st.params := rfl

@[simp] theorem writeV_draws (st : State) (r : VReg) (x : Vec) : (writeV st r x).draws = st.draws := rfl

@[simp] theorem writeV_runStores (st : State) (r : VReg) (x : Vec) : (writeV st r x).runStores = st.runStores := rfl

@[simp] theorem writeS_v (st : State) (r : SReg) (x : Scalar) : (writeS st r x).v = st.v := rfl

@[simp] theorem writeS_s (st : State) (r : SReg) (x : Scalar) : (writeS st r x).s = st.s.set r x := rfl

@[simp] theorem writeS_pc (st : State) (r : SReg) (x : Scalar) : (writeS st r x).pc = st.pc := rfl

@[simp] theorem writeS_rs (st : State) (r : SReg) (x : Scalar) : (writeS st r x).rs = st.rs := rfl

@[simp] theorem writeS_cause (st : State) (r : SReg) (x : Scalar) : (writeS st r x).cause = st.cause := rfl

@[simp] theorem writeS_fpc (st : State) (r : SReg) (x : Scalar) : (writeS st r x).fpc = st.fpc := rfl

@[simp] theorem writeS_finfo (st : State) (r : SReg) (x : Scalar) : (writeS st r x).finfo = st.finfo := rfl

@[simp] theorem writeS_dmem (st : State) (r : SReg) (x : Scalar) : (writeS st r x).dmem = st.dmem := rfl

@[simp] theorem writeS_imem (st : State) (r : SReg) (x : Scalar) : (writeS st r x).imem = st.imem := rfl

@[simp] theorem writeS_params (st : State) (r : SReg) (x : Scalar) : (writeS st r x).params = st.params := rfl

@[simp] theorem writeS_draws (st : State) (r : SReg) (x : Scalar) : (writeS st r x).draws = st.draws := rfl

@[simp] theorem writeS_runStores (st : State) (r : SReg) (x : Scalar) :
    (writeS st r x).runStores = st.runStores := rfl

@[simp] theorem advance_v (st : State) : (advance st).v = st.v := rfl

@[simp] theorem advance_s (st : State) : (advance st).s = st.s := rfl

@[simp] theorem advance_pc (st : State) : (advance st).pc = st.pc + 4 := rfl

@[simp] theorem advance_rs (st : State) : (advance st).rs = st.rs := rfl

@[simp] theorem advance_cause (st : State) : (advance st).cause = st.cause := rfl

@[simp] theorem advance_fpc (st : State) : (advance st).fpc = st.fpc := rfl

@[simp] theorem advance_finfo (st : State) : (advance st).finfo = st.finfo := rfl

@[simp] theorem advance_dmem (st : State) : (advance st).dmem = st.dmem := rfl

@[simp] theorem advance_imem (st : State) : (advance st).imem = st.imem := rfl

@[simp] theorem advance_params (st : State) : (advance st).params = st.params := rfl

@[simp] theorem advance_draws (st : State) : (advance st).draws = st.draws := rfl

@[simp] theorem advance_runStores (st : State) : (advance st).runStores = st.runStores := rfl

@[simp] theorem raise_v (st : State) (f : ArchFault) : (raise st f).v = st.v := rfl

@[simp] theorem raise_s (st : State) (f : ArchFault) : (raise st f).s = st.s := rfl

@[simp] theorem raise_pc (st : State) (f : ArchFault) : (raise st f).pc = st.pc := rfl

@[simp] theorem raise_rs (st : State) (f : ArchFault) : (raise st f).rs = .faulted := rfl

@[simp] theorem raise_cause (st : State) (f : ArchFault) : (raise st f).cause = faultCode f := rfl

@[simp] theorem raise_fpc (st : State) (f : ArchFault) : (raise st f).fpc = st.pc := rfl

@[simp] theorem raise_finfo (st : State) (f : ArchFault) : (raise st f).finfo = faultInfo f := rfl

@[simp] theorem raise_dmem (st : State) (f : ArchFault) : (raise st f).dmem = st.dmem := rfl

@[simp] theorem raise_imem (st : State) (f : ArchFault) : (raise st f).imem = st.imem := rfl

@[simp] theorem raise_params (st : State) (f : ArchFault) : (raise st f).params = st.params := rfl

@[simp] theorem raise_draws (st : State) (f : ArchFault) : (raise st f).draws = st.draws := rfl

@[simp] theorem raise_runStores (st : State) (f : ArchFault) : (raise st f).runStores = st.runStores := rfl

@[simp] theorem storeBytes_v (st : State) (ea : Word) (x : Vec) : (storeBytes st ea x).v = st.v := rfl

@[simp] theorem storeBytes_s (st : State) (ea : Word) (x : Vec) : (storeBytes st ea x).s = st.s := rfl

@[simp] theorem storeBytes_pc (st : State) (ea : Word) (x : Vec) : (storeBytes st ea x).pc = st.pc := rfl

@[simp] theorem storeBytes_rs (st : State) (ea : Word) (x : Vec) : (storeBytes st ea x).rs = st.rs := rfl

@[simp] theorem storeBytes_cause (st : State) (ea : Word) (x : Vec) : (storeBytes st ea x).cause = st.cause := rfl

@[simp] theorem storeBytes_fpc (st : State) (ea : Word) (x : Vec) : (storeBytes st ea x).fpc = st.fpc := rfl

@[simp] theorem storeBytes_finfo (st : State) (ea : Word) (x : Vec) : (storeBytes st ea x).finfo = st.finfo := rfl

@[simp] theorem storeBytes_dmem (st : State) (ea : Word) (x : Vec) :
    (storeBytes st ea x).dmem = writeCells st.dmem (storeCells ea x) := by
  simp only [storeBytes]

@[simp] theorem storeBytes_imem (st : State) (ea : Word) (x : Vec) : (storeBytes st ea x).imem = st.imem := rfl

@[simp] theorem storeBytes_params (st : State) (ea : Word) (x : Vec) : (storeBytes st ea x).params = st.params := rfl

@[simp] theorem storeBytes_draws (st : State) (ea : Word) (x : Vec) : (storeBytes st ea x).draws = st.draws := rfl

@[simp] theorem storeBytes_runStores (st : State) (ea : Word) (x : Vec) :
    (storeBytes st ea x).runStores = ea :: st.runStores := rfl

@[simp] theorem spendDraw_v (st : State) (m : Memory) (addrs : List Nat) : (spendDraw st m addrs).v = st.v := by
  unfold spendDraw; split <;> rfl

@[simp] theorem spendDraw_s (st : State) (m : Memory) (addrs : List Nat) : (spendDraw st m addrs).s = st.s := by
  unfold spendDraw; split <;> rfl

@[simp] theorem spendDraw_pc (st : State) (m : Memory) (addrs : List Nat) : (spendDraw st m addrs).pc = st.pc := by
  unfold spendDraw; split <;> rfl

@[simp] theorem spendDraw_rs (st : State) (m : Memory) (addrs : List Nat) : (spendDraw st m addrs).rs = st.rs := by
  unfold spendDraw; split <;> rfl

@[simp] theorem spendDraw_cause (st : State) (m : Memory) (addrs : List Nat) :
    (spendDraw st m addrs).cause = st.cause := by
  unfold spendDraw; split <;> rfl

@[simp] theorem spendDraw_fpc (st : State) (m : Memory) (addrs : List Nat) : (spendDraw st m addrs).fpc = st.fpc := by
  unfold spendDraw; split <;> rfl

@[simp] theorem spendDraw_finfo (st : State) (m : Memory) (addrs : List Nat) :
    (spendDraw st m addrs).finfo = st.finfo := by
  unfold spendDraw; split <;> rfl

@[simp] theorem spendDraw_dmem (st : State) (m : Memory) (addrs : List Nat) :
    (spendDraw st m addrs).dmem = st.dmem := by
  unfold spendDraw; split <;> rfl

@[simp] theorem spendDraw_imem (st : State) (m : Memory) (addrs : List Nat) :
    (spendDraw st m addrs).imem = st.imem := by
  unfold spendDraw; split <;> rfl

@[simp] theorem spendDraw_params (st : State) (m : Memory) (addrs : List Nat) :
    (spendDraw st m addrs).params = st.params := by
  unfold spendDraw; split <;> rfl

@[simp] theorem spendDraw_draws (st : State) (m : Memory) (addrs : List Nat) :
    (spendDraw st m addrs).draws = if allWritten m addrs then st.draws else st.draws + 1 := by
  unfold spendDraw; split <;> rfl

@[simp] theorem spendDraw_runStores (st : State) (m : Memory) (addrs : List Nat) :
    (spendDraw st m addrs).runStores = st.runStores := by
  unfold spendDraw; split <;> rfl

@[simp] theorem afterFetch_v (st : State) : (afterFetch st).v = st.v := by
  simp [afterFetch]

@[simp] theorem afterFetch_s (st : State) : (afterFetch st).s = st.s := by
  simp [afterFetch]

@[simp] theorem afterFetch_pc (st : State) : (afterFetch st).pc = st.pc := by
  simp [afterFetch]

@[simp] theorem afterFetch_rs (st : State) : (afterFetch st).rs = st.rs := by
  simp [afterFetch]

@[simp] theorem afterFetch_cause (st : State) : (afterFetch st).cause = st.cause := by
  simp [afterFetch]

@[simp] theorem afterFetch_fpc (st : State) : (afterFetch st).fpc = st.fpc := by
  simp [afterFetch]

@[simp] theorem afterFetch_finfo (st : State) : (afterFetch st).finfo = st.finfo := by
  simp [afterFetch]

@[simp] theorem afterFetch_dmem (st : State) : (afterFetch st).dmem = st.dmem := by
  simp [afterFetch]

@[simp] theorem afterFetch_imem (st : State) : (afterFetch st).imem = st.imem := by
  simp [afterFetch]

@[simp] theorem afterFetch_params (st : State) : (afterFetch st).params = st.params := by
  simp [afterFetch]

@[simp] theorem afterFetch_draws (st : State) :
    (afterFetch st).draws = if allWritten st.imem (fetchAddrs st.pc) then st.draws else st.draws + 1 := by
  simp [afterFetch]

@[simp] theorem afterFetch_runStores (st : State) : (afterFetch st).runStores = st.runStores := by
  simp [afterFetch]

@[simp] theorem hostReset_v (st : State) : (hostReset st).v = Vector.ofFn (Config.powerOnV st.draws) := rfl

@[simp] theorem hostReset_s (st : State) : (hostReset st).s = Vector.ofFn (Config.powerOnS st.draws) := rfl

@[simp] theorem hostReset_pc (st : State) : (hostReset st).pc = 0 := rfl

@[simp] theorem hostReset_rs (st : State) : (hostReset st).rs = .halted := rfl

@[simp] theorem hostReset_cause (st : State) : (hostReset st).cause = 0 := rfl

@[simp] theorem hostReset_fpc (st : State) : (hostReset st).fpc = 0 := rfl

@[simp] theorem hostReset_finfo (st : State) : (hostReset st).finfo = 0 := rfl

@[simp] theorem hostReset_dmem (st : State) :
    (hostReset st).dmem = if st.rs = .running then forgetStores st.dmem (interruptedStores st) else st.dmem := rfl

@[simp] theorem hostReset_imem (st : State) : (hostReset st).imem = st.imem := rfl

@[simp] theorem hostReset_params (st : State) : (hostReset st).params = st.params := rfl

@[simp] theorem hostReset_draws (st : State) : (hostReset st).draws = st.draws + 1 := rfl

@[simp] theorem hostReset_runStores (st : State) : (hostReset st).runStores = [] := rfl

/-! ### Reading a register after an update -/

@[simp] theorem readV_writeV_self (st : State) (r : VReg) (x : Vec) : readV (writeV st r x) r = x := by
  simp [readV]

theorem readV_writeV_of_ne (st : State) {r q : VReg} (x : Vec) (h : q ≠ r) :
    readV (writeV st r x) q = readV st q := by
  simp only [readV, writeV_v, Fin.getElem_fin]
  exact Vector.getElem_set_ne _ _ fun e => h (Fin.ext e.symm)

@[simp] theorem readS_writeS_self (st : State) (r : SReg) (x : Scalar) : readS (writeS st r x) r = x := by
  simp [readS]

theorem readS_writeS_of_ne (st : State) {r q : SReg} (x : Scalar) (h : q ≠ r) :
    readS (writeS st r x) q = readS st q := by
  simp only [readS, writeS_s, Fin.getElem_fin]
  exact Vector.getElem_set_ne _ _ fun e => h (Fin.ext e.symm)

@[simp] theorem readS_writeV (st : State) (r : VReg) (x : Vec) (q : SReg) : readS (writeV st r x) q = readS st q := rfl

@[simp] theorem readV_writeS (st : State) (r : SReg) (x : Scalar) (q : VReg) : readV (writeS st r x) q = readV st q := rfl

@[simp] theorem readV_advance (st : State) (q : VReg) : readV (advance st) q = readV st q := rfl

@[simp] theorem readS_advance (st : State) (q : SReg) : readS (advance st) q = readS st q := rfl

@[simp] theorem readV_raise (st : State) (f : ArchFault) (q : VReg) : readV (raise st f) q = readV st q := rfl

@[simp] theorem readS_raise (st : State) (f : ArchFault) (q : SReg) : readS (raise st f) q = readS st q := rfl

@[simp] theorem readV_storeBytes (st : State) (ea : Word) (x : Vec) (q : VReg) :
    readV (storeBytes st ea x) q = readV st q := rfl

@[simp] theorem readS_storeBytes (st : State) (ea : Word) (x : Vec) (q : SReg) :
    readS (storeBytes st ea x) q = readS st q := rfl

@[simp] theorem readV_spendDraw (st : State) (m : Memory) (addrs : List Nat) (q : VReg) :
    readV (spendDraw st m addrs) q = readV st q := by
  simp [readV]

@[simp] theorem readS_spendDraw (st : State) (m : Memory) (addrs : List Nat) (q : SReg) :
    readS (spendDraw st m addrs) q = readS st q := by
  simp [readS]

@[simp] theorem readV_afterFetch (st : State) (q : VReg) : readV (afterFetch st) q = readV st q := by
  simp [readV]

@[simp] theorem readS_afterFetch (st : State) (q : SReg) : readS (afterFetch st) q = readS st q := by
  simp [readS]

end Sys2Proof.Machine
end

