-- ==== Sys2Proof/Laws/Memory.lean ====
section
/-!
SUPPORT. What the memory operations do: a read after a write, and the canonical form, which every one of them keeps.
-/

namespace Sys2Proof.Machine

/-! ### Read after write -/

@[simp] theorem readCell_writeCell_self (m : Memory) (a : Nat) (b : Byte) : readCell (writeCell m a b) a = some b := by
  induction m with
  | nil => simp [writeCell, readCell]
  | cons c m ih =>
    unfold writeCell
    split_ifs with h1 h2
    · simp [readCell]
    · simp [readCell]
    · simp [readCell, h2, ih]

theorem readCell_writeCell_of_ne (m : Memory) {a a' : Nat} (b : Byte) (h : a' ≠ a) :
    readCell (writeCell m a b) a' = readCell m a' := by
  induction m with
  | nil => simp [writeCell, readCell, h]
  | cons c m ih =>
    unfold writeCell
    split_ifs with h1 h2
    · simp [readCell, h]
    · simp [readCell, h, h2 ▸ h]
    · simp [readCell, ih]

/-- A read after writing a list of cells, none of them at the address. -/
theorem readCell_writeCells_of_not_mem (m : Memory) (cells : List Host.Cell) {a : Nat} (h : ∀ c ∈ cells, c.1 ≠ a) :
    readCell (writeCells m cells) a = readCell m a := by
  induction cells generalizing m with
  | nil => rfl
  | cons c cells ih =>
    simp only [List.mem_cons, forall_eq_or_imp] at h
    simp only [writeCells, List.foldl_cons]
    exact (ih _ h.2).trans (readCell_writeCell_of_ne m c.2 h.1.symm)

/-- A read after writing a list of cells at distinct addresses, one of them at the address. -/
theorem readCell_writeCells_of_mem (m : Memory) (cells : List Host.Cell) (hd : (cells.map Prod.fst).Nodup)
    {a : Nat} {b : Byte} (h : (a, b) ∈ cells) : readCell (writeCells m cells) a = some b := by
  induction cells generalizing m with
  | nil => simp at h
  | cons c cells ih =>
    simp only [List.map_cons, List.nodup_cons] at hd
    simp only [writeCells, List.foldl_cons]
    rcases List.mem_cons.1 h with rfl | h
    · refine (readCell_writeCells_of_not_mem _ cells fun c hc e => hd.1 ?_).trans (readCell_writeCell_self m a b)
      exact List.mem_map.2 ⟨c, hc, e⟩
    · exact ih _ hd.2 h

/-- A written byte stays written. -/
theorem isSome_writeCell {m : Memory} (a : Nat) (b : Byte) {a' : Nat} (h : (readCell m a').isSome = true) :
    (readCell (writeCell m a b) a').isSome = true := by
  by_cases e : a' = a
  · simp [e]
  · rwa [readCell_writeCell_of_ne m b e]

theorem isSome_writeCells {m : Memory} (cells : List Host.Cell) {a : Nat} (h : (readCell m a).isSome = true) :
    (readCell (writeCells m cells) a).isSome = true := by
  induction cells generalizing m with
  | nil => exact h
  | cons c cells ih => exact ih (isSome_writeCell c.1 c.2 h)

/-! ### The canonical form -/

theorem mem_writeCell {m : Memory} {a : Nat} {b : Byte} {c : Host.Cell} (h : c ∈ writeCell m a b) :
    c = (a, b) ∨ c ∈ m := by
  induction m with
  | nil => exact .inl (by simpa [writeCell] using h)
  | cons d m ih =>
    unfold writeCell at h
    split_ifs at h with h1 h2
    · simpa using h
    · rcases List.mem_cons.1 h with h | h
      · exact .inl h
      · exact .inr (List.mem_cons_of_mem _ h)
    · rcases List.mem_cons.1 h with h | h
      · exact .inr (h ▸ List.mem_cons_self)
      · exact (ih h).imp id (List.mem_cons_of_mem _)

theorem wf_writeCell {m : Memory} (a : Nat) (b : Byte) (h : Memory.wf m = true) : Memory.wf (writeCell m a b) = true := by
  induction m with
  | nil => rfl
  | cons c m ih =>
    simp only [Memory.wf, Bool.and_eq_true, List.all_eq_true, decide_eq_true_eq] at h
    unfold writeCell
    split_ifs with h1 h2
    · simp only [Memory.wf, Bool.and_eq_true, List.all_eq_true, decide_eq_true_eq, List.mem_cons, forall_eq_or_imp]
      exact ⟨⟨h1, fun d hd => h1.trans (h.1 d hd)⟩, h.1, h.2⟩
    · simp only [Memory.wf, Bool.and_eq_true, List.all_eq_true, decide_eq_true_eq]
      exact ⟨fun d hd => h2 ▸ h.1 d hd, h.2⟩
    · simp only [Memory.wf, Bool.and_eq_true, List.all_eq_true, decide_eq_true_eq]
      refine ⟨fun d hd => ?_, ih h.2⟩
      rcases mem_writeCell hd with rfl | hd
      · exact lt_of_le_of_ne (not_lt.1 h1) fun e => h2 e.symm
      · exact h.1 d hd

theorem wf_writeCells {m : Memory} (cells : List Host.Cell) (h : Memory.wf m = true) :
    Memory.wf (writeCells m cells) = true := by
  induction cells generalizing m with
  | nil => exact h
  | cons c cells ih => exact ih (wf_writeCell c.1 c.2 h)

/-- Reset, host reset and placing an instruction keep the canonical form too. -/
theorem wf_reset : Memory.wf State.reset.dmem = true ∧ Memory.wf State.reset.imem = true := ⟨rfl, rfl⟩

theorem wf_placeInstruction {s : State} (bs : List Byte) (h : Memory.wf s.imem = true) :
    Memory.wf (placeInstruction s bs).imem = true := wf_writeCells _ h

/-- Removing bytes by address keeps the canonical form. -/
theorem wf_filter {m : Memory} (p : Host.Cell → Bool) (h : Memory.wf m = true) : Memory.wf (m.filter p) = true := by
  induction m with
  | nil => rfl
  | cons c m ih =>
    simp only [Memory.wf, Bool.and_eq_true, List.all_eq_true, decide_eq_true_eq] at h
    rw [List.filter_cons]
    split
    · simp only [Memory.wf, Bool.and_eq_true, List.all_eq_true, decide_eq_true_eq]
      exact ⟨fun d hd => h.1 d (List.mem_of_mem_filter hd), ih h.2⟩
    · exact ih h.2

theorem wf_hostReset {s : State} (h : Memory.wf s.dmem = true) : Memory.wf (hostReset s).dmem = true := by
  rw [hostReset_dmem]
  split
  · exact wf_filter _ h
  · exact h

/-! ### The addresses of an access -/

theorem mem_accessAddrs {addr : Word} {n a : Nat} : a ∈ accessAddrs addr n ↔ ∃ k < n, a = (addr.toNat + k) % 2 ^ 32 := by
  simp [accessAddrs, eq_comm]

theorem storesReach_iff {stores : List Word} {a : Nat} :
    storesReach stores a = true ↔ ∃ ea ∈ stores, ∃ k < 16, a = (ea.toNat + k) % 2 ^ 32 := by
  simp [storesReach, mem_accessAddrs]

/-- What forgetting stores does to a byte: the bytes the stores wrote become unwritten, every other byte is kept (R326). -/
theorem readCell_forgetStores (m : Memory) (stores : List Word) (a : Nat) :
    readCell (forgetStores m stores) a = if storesReach stores a then none else readCell m a := by
  induction m with
  | nil => simp [forgetStores, readCell]
  | cons c m ih =>
    rw [forgetStores] at ih ⊢
    by_cases hc : storesReach stores c.1 <;> by_cases ha : a = c.1
    · subst ha; simp [hc, ih]
    · simp [hc, ih, readCell, ha]
    · subst ha; simp [hc, readCell]
    · simp [hc, readCell, ha, ih]

theorem inBounds_iff {size : Nat} {addr : Word} {n : Nat} :
    inBounds size addr n = true ↔ ∀ k < n, (addr.toNat + k) % 2 ^ 32 < size := by
  simp [inBounds, accessAddrs]

theorem allWritten_iff {m : Memory} {addrs : List Nat} :
    allWritten m addrs = true ↔ ∀ a ∈ addrs, (readCell m a).isSome := by
  simp [allWritten]

theorem seenByte_of_written {m : Memory} {a : Nat} {b : Byte} (access : Access) (draw : Nat)
    (h : readCell m a = some b) : seenByte access m draw a = b := by
  simp [seenByte, h]

/-- The sixteen addresses of a store are distinct (R44). -/
theorem nodup_storeCells (addr : Word) (x : Vec) : ((storeCells addr x).map Prod.fst).Nodup := by
  have hm : (storeCells addr x).map Prod.fst = (List.range 16).map fun k => (addr.toNat + k) % 2 ^ 32 := by
    simp [storeCells]
  rw [hm]
  refine List.Nodup.map_on ?_ List.nodup_range
  intro j hj k hk e
  have hj := List.mem_range.1 hj
  have hk := List.mem_range.1 hk
  have := addr.isLt
  omega

/-- Byte `k` of a store can be read back at its address (R44). -/
theorem readCell_store (m : Memory) (addr : Word) (x : Vec) {k : Nat} (hk : k < 16) :
    readCell (writeCells m (storeCells addr x)) ((addr.toNat + k) % 2 ^ 32) = some (byteOf x k) :=
  readCell_writeCells_of_mem m _ (nodup_storeCells addr x) (List.mem_map.2 ⟨k, List.mem_range.2 hk, rfl⟩)

/-- A store leaves every address outside its sixteen bytes alone (R44). -/
theorem readCell_store_of_outside (m : Memory) (addr : Word) (x : Vec) {a : Nat}
    (h : ∀ k < 16, a ≠ (addr.toNat + k) % 2 ^ 32) : readCell (writeCells m (storeCells addr x)) a = readCell m a := by
  refine readCell_writeCells_of_not_mem m _ fun c hc e => ?_
  obtain ⟨k, hk, rfl⟩ := List.mem_map.1 hc
  exact h k (List.mem_range.1 hk) e.symm

end Sys2Proof.Machine
end

