-- ==== Sys2Proof/Laws/Operands.lean ====
section
/-!
SUPPORT. The lanes of the operand forms: what each lane of a packed, mapped, widened or narrowed value is.
-/

namespace Sys2Proof.Machine

/-! ### Packing -/

@[simp] theorem lane32_pack32_0 (a b c d : BitVec 32) : lane 32 (pack32 a b c d) 0 = d := by
  unfold lane pack32; ext i hi
  simp only [BitVec.getElem_extractLsb', BitVec.getLsbD_append]
  grind

@[simp] theorem lane32_pack32_1 (a b c d : BitVec 32) : lane 32 (pack32 a b c d) 1 = c := by
  unfold lane pack32; ext i hi
  simp only [BitVec.getElem_extractLsb', BitVec.getLsbD_append]
  grind

@[simp] theorem lane32_pack32_2 (a b c d : BitVec 32) : lane 32 (pack32 a b c d) 2 = b := by
  unfold lane pack32; ext i hi
  simp only [BitVec.getElem_extractLsb', BitVec.getLsbD_append]
  grind

@[simp] theorem lane32_pack32_3 (a b c d : BitVec 32) : lane 32 (pack32 a b c d) 3 = a := by
  unfold lane pack32; ext i hi
  simp only [BitVec.getElem_extractLsb', BitVec.getLsbD_append]
  grind

@[simp] theorem lane64_pack64_0 (a b : BitVec 64) : lane 64 (pack64 a b) 0 = b := by
  unfold lane pack64; ext i hi
  simp only [BitVec.getElem_extractLsb', BitVec.getLsbD_append]
  grind

@[simp] theorem lane64_pack64_1 (a b : BitVec 64) : lane 64 (pack64 a b) 1 = a := by
  unfold lane pack64; ext i hi
  simp only [BitVec.getElem_extractLsb', BitVec.getLsbD_append]
  grind

/-- Two values with equal 32-bit lanes are equal. -/
theorem eq_of_lanes32 {x y : Vec} (h : ∀ j < 4, lane 32 x j = lane 32 y j) : x = y := by
  ext i hi
  have hj := congrArg (fun z : BitVec 32 => z.getLsbD (i % 32)) (h (i / 32) (by omega))
  simp only [lane, BitVec.getLsbD_extractLsb', Nat.mod_lt i (by decide : 32 > 0), decide_true, Bool.true_and,
    Nat.div_add_mod] at hj
  rw [← BitVec.getLsbD_eq_getElem, ← BitVec.getLsbD_eq_getElem]
  exact hj

/-- Two values with equal 64-bit lanes are equal. -/
theorem eq_of_lanes64 {x y : Vec} (h : ∀ j < 2, lane 64 x j = lane 64 y j) : x = y := by
  ext i hi
  have hj := congrArg (fun z : BitVec 64 => z.getLsbD (i % 64)) (h (i / 64) (by omega))
  simp only [lane, BitVec.getLsbD_extractLsb', Nat.mod_lt i (by decide : 64 > 0), decide_true, Bool.true_and,
    Nat.div_add_mod] at hj
  rw [← BitVec.getLsbD_eq_getElem, ← BitVec.getLsbD_eq_getElem]
  exact hj

/-! ### Lane by lane -/

theorem lane_lanes32 (f : Nat → BitVec 32) {j : Nat} (hj : j < 4) : lane 32 (lanes32 f) j = f j := by
  unfold lanes32
  match j, hj with
  | 0, _ => exact lane32_pack32_0 ..
  | 1, _ => exact lane32_pack32_1 ..
  | 2, _ => exact lane32_pack32_2 ..
  | 3, _ => exact lane32_pack32_3 ..

theorem lane_lanes64 (f : Nat → BitVec 64) {j : Nat} (hj : j < 2) : lane 64 (lanes64 f) j = f j := by
  unfold lanes64
  match j, hj with
  | 0, _ => exact lane64_pack64_0 ..
  | 1, _ => exact lane64_pack64_1 ..

theorem lane_map32 (f : BitVec 32 → BitVec 32) (x : Vec) {j : Nat} (hj : j < 4) :
    lane 32 (map32 f x) j = f (lane 32 x j) := lane_lanes32 _ hj

theorem lane_map64 (f : BitVec 64 → BitVec 64) (x : Vec) {j : Nat} (hj : j < 2) :
    lane 64 (map64 f x) j = f (lane 64 x j) := lane_lanes64 _ hj

theorem lane_zip32 (f : BitVec 32 → BitVec 32 → BitVec 32) (x y : Vec) {j : Nat} (hj : j < 4) :
    lane 32 (zip32 f x y) j = f (lane 32 x j) (lane 32 y j) := lane_lanes32 _ hj

theorem lane_zip64 (f : BitVec 64 → BitVec 64 → BitVec 64) (x y : Vec) {j : Nat} (hj : j < 2) :
    lane 64 (zip64 f x y) j = f (lane 64 x j) (lane 64 y j) := lane_lanes64 _ hj

theorem lane_zip3x32 (f : BitVec 32 → BitVec 32 → BitVec 32 → BitVec 32) (x y z : Vec) {j : Nat} (hj : j < 4) :
    lane 32 (zip3x32 f x y z) j = f (lane 32 x j) (lane 32 y j) (lane 32 z j) := lane_lanes32 _ hj

theorem lane_zip3x64 (f : BitVec 64 → BitVec 64 → BitVec 64 → BitVec 64) (x y z : Vec) {j : Nat} (hj : j < 2) :
    lane 64 (zip3x64 f x y z) j = f (lane 64 x j) (lane 64 y j) (lane 64 z j) := lane_lanes64 _ hj

theorem lane_widen (f : BitVec 32 → BitVec 64) (x : Vec) {j : Nat} (hj : j < 2) :
    lane 64 (widen f x) j = f (lane 32 x j) := lane_lanes64 _ hj

theorem lane_narrow (f : BitVec 64 → BitVec 32) (x : Vec) {j : Nat} (hj : j < 4) :
    lane 32 (narrow f x) j = if j < 2 then f (lane 64 x j) else 0 := lane_lanes32 _ hj

theorem lane_setLane32 (x : Vec) (i : Nat) (y : BitVec 32) {j : Nat} (hj : j < 4) :
    lane 32 (setLane32 x i y) j = if j = i then y else lane 32 x j := lane_lanes32 _ hj

theorem lane_setLane64 (x : Vec) (i : Nat) (y : BitVec 64) {j : Nat} (hj : j < 2) :
    lane 64 (setLane64 x i y) j = if j = i then y else lane 64 x j := lane_lanes64 _ hj

/-! ### Lanes of the two widths (R131) -/

/-- A 64-bit lane is two 32-bit lanes, the odd one high (R131). -/
theorem lane64_eq_append (x : Vec) (j : Nat) : lane 64 x j = lane 32 x (2 * j + 1) ++ lane 32 x (2 * j) := by
  ext i hi
  rw [← BitVec.getLsbD_eq_getElem, ← BitVec.getLsbD_eq_getElem]
  simp only [lane, BitVec.getLsbD_append, BitVec.getLsbD_extractLsb', hi, decide_true, Bool.true_and]
  split
  · rename_i h
    simp only [h, decide_true, Bool.true_and]
    congr 1; omega
  · rw [decide_eq_true (by omega : i - 32 < 32), Bool.true_and]
    congr 1; omega

/-! ### Masks and booleans -/

@[simp] theorem maskLane_true (W : Nat) : maskLane W true = BitVec.allOnes W := rfl

@[simp] theorem maskLane_false (W : Nat) : maskLane W false = 0 := rfl

@[simp] theorem isMaskLane_maskLane (W : Nat) (b : Bool) : isMaskLane (maskLane W b) = true := by
  cases b <;> simp [isMaskLane]

end Sys2Proof.Machine
end

