-- ==== Sys2Proof/Laws/Ops.lean ====
section
/-!
SUPPORT. Said once for each shared operation: everything it can do. The proofs about instructions cite these and do not
unfold the operations.
-/

namespace Sys2Proof.Machine

/-! ### Ways an instruction ends -/

theorem toNat_advance_pc (s : State) : (advance s).pc.toNat = (s.pc.toNat + 4) % 2 ^ 32 := by
  simp [BitVec.toNat_add]

/-- `doneV` writes one vector register and advances `pc`. -/
theorem onlyV_doneV (s : State) (rd : VReg) (x : Vec) : OnlyV s (advance (writeV s rd x)) rd where
  pc := by simp [BitVec.toNat_add]
  rs := rfl
  cause := rfl
  fpc := rfl
  finfo := rfl
  data _ := rfl
  instr _ := rfl
  params := rfl
  runStores := rfl
  otherV r hr := by simpa using readV_writeV_of_ne s x hr
  everyS _ := rfl

/-- `doneS` writes one scalar register and advances `pc`. -/
theorem onlyS_doneS (s : State) (rd : SReg) (x : Scalar) : OnlyS s (advance (writeS s rd x)) rd where
  pc := by simp [BitVec.toNat_add]
  rs := rfl
  cause := rfl
  fpc := rfl
  finfo := rfl
  data _ := rfl
  instr _ := rfl
  params := rfl
  runStores := rfl
  everyV _ := rfl
  otherS r hr := by simpa using readS_writeS_of_ne s x hr

/-- An instruction that ends in `doneV` completes with the value written. -/
theorem completesV_of_doneV {i : Instr} {s : State} {rd : VReg} {x : Vec} {P : Vec → Prop}
    (h : exec i s = doneV s rd x) (hP : P x) : CompletesV i s rd P :=
  ⟨_, h, onlyV_doneV s rd x, rfl, by simpa using hP⟩

/-- An instruction that ends in `doneS` completes with the value written. -/
theorem completesS_of_doneS {i : Instr} {s : State} {rd : SReg} {x : Scalar} {P : Scalar → Prop}
    (h : exec i s = doneS s rd x) (hP : P x) : CompletesS i s rd P :=
  ⟨_, h, onlyS_doneS s rd x, rfl, by simpa using hP⟩

/-! ### The fault primitive (R311) -/

theorem raised_raise (s : State) (f : ArchFault) : Raised s (raise s f) (faultCode f).toNat (faultInfo f) where
  rs := rfl
  cause := rfl
  fpc := rfl
  finfo := rfl
  pc := rfl
  everyV _ := rfl
  everyS _ := rfl
  data _ := rfl
  instr _ := rfl
  params := rfl
  runStores := rfl

/-! ### Load and store -/

/-- What a load can do (R44, R115). -/
theorem loadVec_cases (s : State) (rd : VReg) (ea : Word) :
    ((∀ k < 16, (ea.toNat + k) % 2 ^ 32 < s.params.memSize) ∧
      loadVec s rd ea = doneV (spendDraw s s.dmem (accessAddrs ea 16)) rd (loadValue s ea)) ∨
    ((∃ k < 16, s.params.memSize ≤ (ea.toNat + k) % 2 ^ 32) ∧
      loadVec s rd ea = .next (raise s (.memAccessFault ea))) := by
  unfold loadVec
  split
  · exact .inl ⟨inBounds_iff.1 ‹_›, rfl⟩
  · refine .inr ⟨?_, rfl⟩
    rename_i h
    rw [inBounds_iff] at h
    push Not at h
    exact h

/-- What a store can do (R44, R116). -/
theorem storeVec_cases (s : State) (ea : Word) (x : Vec) :
    ((∀ k < 16, (ea.toNat + k) % 2 ^ 32 < s.params.memSize) ∧
      storeVec s ea x = .next (advance (storeBytes s ea x))) ∨
    ((∃ k < 16, s.params.memSize ≤ (ea.toNat + k) % 2 ^ 32) ∧
      storeVec s ea x = .next (raise s (.memAccessFault ea))) := by
  unfold storeVec
  split
  · exact .inl ⟨inBounds_iff.1 ‹_›, rfl⟩
  · refine .inr ⟨?_, rfl⟩
    rename_i h
    rw [inBounds_iff] at h
    push Not at h
    exact h

/-! ### Bytes -/

/-- Byte `k` of the number with the given bytes (R45). -/
theorem natOfBytes_div_mod (bs : List Byte) {k : Nat} (hk : k < bs.length) :
    natOfBytes bs / 256 ^ k % 256 = (bs[k]).toNat := by
  induction bs generalizing k with
  | nil => simp at hk
  | cons b bs ih =>
    have hb := b.isLt
    cases k with
    | zero => simp [natOfBytes]; omega
    | succ k =>
      have hk' : k < bs.length := by simpa using hk
      have e : (b.toNat + 256 * natOfBytes bs) / 256 ^ (k + 1) = natOfBytes bs / 256 ^ k := by
        rw [pow_succ', ← Nat.div_div_eq_div_mul]
        congr 1
        omega
      simpa [natOfBytes, e] using ih hk'

theorem natOfBytes_lt (bs : List Byte) : natOfBytes bs < 256 ^ bs.length := by
  induction bs with
  | nil => simp [natOfBytes]
  | cons b bs ih =>
    have hb := b.isLt
    have e : 256 ^ (b :: bs).length = 256 * 256 ^ bs.length := by rw [List.length_cons, pow_succ']
    rw [e]
    simp only [natOfBytes]
    omega

/-- Byte `k` of a loaded value is the byte seen at `ea + k` (R44, R45). -/
theorem byteOf_loadValue (s : State) (ea : Word) {k : Nat} (hk : k < 16) :
    byteOf (loadValue s ea) k = seenByte .load s.dmem s.draws ((ea.toNat + k) % 2 ^ 32) := by
  obtain ⟨bs, hbs⟩ : ∃ bs, bs = seenBytes .load s.dmem s.draws (accessAddrs ea 16) := ⟨_, rfl⟩
  have hlen : bs.length = 16 := by simp [hbs, seenBytes, accessAddrs]
  have hlt := natOfBytes_lt bs
  have hb := natOfBytes_div_mod bs (k := k) (by omega)
  have hk' : bs[k] = seenByte .load s.dmem s.draws ((ea.toNat + k) % 2 ^ 32) := by
    simp [hbs, seenBytes, accessAddrs]
  rw [hlen] at hlt
  rw [hk'] at hb
  apply BitVec.eq_of_toNat_eq
  rw [← hb]
  simp only [byteOf, loadValue, BitVec.extractLsb'_toNat, BitVec.toNat_ofNat, Nat.shiftRight_eq_div_pow, ← hbs]
  rw [Nat.mod_eq_of_lt (a := natOfBytes bs) (by simpa using hlt), pow_mul]
  norm_num

/-- Two values with equal bytes are equal. -/
theorem eq_of_bytes {x y : Vec} (h : ∀ k < 16, byteOf x k = byteOf y k) : x = y := by
  ext i hi
  have hj := congrArg (fun z : BitVec 8 => z.getLsbD (i % 8)) (h (i / 8) (by omega))
  simp only [byteOf, BitVec.getLsbD_extractLsb', Nat.mod_lt i (by decide : 8 > 0), decide_true, Bool.true_and,
    Nat.div_add_mod] at hj
  rw [← BitVec.getLsbD_eq_getElem, ← BitVec.getLsbD_eq_getElem]
  exact hj

end Sys2Proof.Machine
end

