-- ==== Sys2Proof/Laws/Exec.lean ====
section
/-!
SUPPORT. Said once: everything an instruction can do, and everything a step can do. A proof about all instructions or
about every step splits on these and never on the 245 constructors.
-/

namespace Sys2Proof.Machine

/-- What an instruction does: it writes one vector or one scalar register, loads, stores, or halts (R344). -/
theorem exec_cases (i : Instr) (s : State) :
    (i ≠ .halt ∧ ∃ rd x, exec i s = doneV s rd x) ∨ (i ≠ .halt ∧ ∃ rd x, exec i s = doneS s rd x) ∨
      (i ≠ .halt ∧ ∃ rd ea, exec i s = loadVec s rd ea) ∨ (i ≠ .halt ∧ ∃ ea x, exec i s = storeVec s ea x) ∨
      (i = .halt ∧ exec i s = .next (advance { s with rs := .halted })) := by
  cases i with
  | halt => exact .inr (.inr (.inr (.inr ⟨rfl, rfl⟩)))
  | loadUnalignedPi32 rd ra imm8 => exact .inr (.inr (.inl ⟨nofun, _, _, rfl⟩))
  | loadUnalignedPi64 rd ra imm8 => exact .inr (.inr (.inl ⟨nofun, _, _, rfl⟩))
  | loadUnalignedPs rd ra imm8 => exact .inr (.inr (.inl ⟨nofun, _, _, rfl⟩))
  | loadUnalignedPd rd ra imm8 => exact .inr (.inr (.inl ⟨nofun, _, _, rfl⟩))
  | storeUnalignedPi32 rb ra imm8 => exact .inr (.inr (.inr (.inl ⟨nofun, _, _, rfl⟩)))
  | storeUnalignedPi64 rb ra imm8 => exact .inr (.inr (.inr (.inl ⟨nofun, _, _, rfl⟩)))
  | storeUnalignedPs rb ra imm8 => exact .inr (.inr (.inr (.inl ⟨nofun, _, _, rfl⟩)))
  | storeUnalignedPd rb ra imm8 => exact .inr (.inr (.inr (.inl ⟨nofun, _, _, rfl⟩)))
  | _ => first
    | exact .inl ⟨nofun, _, _, rfl⟩
    | exact .inr (.inl ⟨nofun, _, _, rfl⟩)

/-- What a step of a running block does: a fetch fault, an illegal word, or the decoded instruction (R313, R344). -/
theorem step_cases {s : State} (h : s.rs = .running) :
    (s.pc.toNat % 4 ≠ 0 ∧ step s = .next (raise s (.fetchMisaligned s.pc))) ∨
    (s.pc.toNat % 4 = 0 ∧ s.params.imemSize ≤ s.pc.toNat + 3 ∧ step s = .next (raise s (.fetchFault s.pc))) ∨
    (s.pc.toNat % 4 = 0 ∧ s.pc.toNat + 3 < s.params.imemSize ∧
      ((∃ c, decode (fetchWord s) = .error c ∧
          step s = .next (raise (afterFetch s) (.illegalInstruction (fetchWord s)))) ∨
        ∃ i, decode (fetchWord s) = .ok i ∧ step s = exec i (afterFetch s))) := by
  have hs : step s = runningStep s := by simp [step, sequencerStep, h]
  rw [hs, runningStep, fetch]
  by_cases h1 : s.pc.toNat % 4 = 0
  · by_cases h2 : s.params.imemSize ≤ s.pc.toNat + 3
    · exact .inr (.inl ⟨h1, h2, by simp [h1, h2]⟩)
    · refine .inr (.inr ⟨h1, by omega, ?_⟩)
      simp only [h1, ne_eq, not_true_eq_false, if_false, h2, executeWord]
      cases hd : decode (fetchWord s) with
      | error c => exact .inl ⟨c, rfl, rfl⟩
      | ok i => exact .inr ⟨i, rfl, rfl⟩
  · exact .inl ⟨h1, by simp [h1]⟩

/-- A block that is not running does not step (R344). -/
theorem step_of_not_running {s : State} (h : s.rs ≠ .running) : step s = .next s := by
  cases hr : s.rs <;> simp_all [step, sequencerStep]

/-- An instruction notes at most the one store it makes (R326, log 21). -/
theorem exec_runStores {i : Instr} {s t : State} (h : exec i s = .next t) :
    t.runStores = s.runStores ∨ ∃ ea, t.runStores = ea :: s.runStores := by
  rcases exec_cases i s with ⟨-, rd, x, e⟩ | ⟨-, rd, x, e⟩ | ⟨-, rd, ea, e⟩ | ⟨-, ea, x, e⟩ | ⟨-, e⟩
  · rw [e, doneV] at h; cases h; exact .inl rfl
  · rw [e, doneS] at h; cases h; exact .inl rfl
  · rcases loadVec_cases s rd ea with ⟨-, e'⟩ | ⟨-, e'⟩
    · rw [e, e', doneV] at h; cases h; exact .inl (by simp)
    · rw [e, e'] at h; cases h; exact .inl rfl
  · rcases storeVec_cases s ea x with ⟨-, e'⟩ | ⟨-, e'⟩
    · rw [e, e'] at h; cases h; exact .inr ⟨ea, by simp⟩
    · rw [e, e'] at h; cases h; exact .inl rfl
  · rw [e] at h; cases h; exact .inl rfl

/-- The stores an interrupted run could have made are those noted after the step in progress (R326). -/
theorem interruptedStores_of_step {s t : State} (h : step s = .next t) : interruptedStores s = t.runStores := by
  rw [step] at h
  rw [interruptedStores, h]

end Sys2Proof.Machine
end

