-- ==== Sys2Proof/Laws/Float.lean ====
section
/-!
SUPPORT. The floating-point helpers: the format parameters, the fields of a built pattern, and rounding to an integer.
-/

namespace Sys2Proof.Machine

/-! ### Formats (R11) -/

@[simp] theorem fracBits_32 : fracBits 32 = 23 := rfl
@[simp] theorem fracBits_64 : fracBits 64 = 52 := rfl
@[simp] theorem expBits_32 : expBits 32 = 8 := rfl
@[simp] theorem expBits_64 : expBits 64 = 11 := rfl
@[simp] theorem bias_32 : bias 32 = 127 := rfl
@[simp] theorem bias_64 : bias 64 = 1023 := rfl
@[simp] theorem expMax_32 : expMax 32 = 255 := rfl
@[simp] theorem expMax_64 : expMax 64 = 2047 := rfl
@[simp] theorem unitExp_32 : unitExp 32 = 149 := rfl
@[simp] theorem unitExp_64 : unitExp 64 = 1074 := rfl

/-! ### Patterns built from a sign and a number below it -/

theorem withSign32_fields (neg : Bool) {n : Nat} (h : n < 2 ^ 31) :
    signOf (withSign 32 neg n) = neg ∧ expField (withSign 32 neg n) = n / 2 ^ 23 ∧
      fracField (withSign 32 neg n) = n % 2 ^ 23 := by
  have hn : (withSign 32 neg n).toNat = (if neg then 2 ^ 31 else 0) + n := by
    simp only [withSign, BitVec.toNat_ofNat]
    exact Nat.mod_eq_of_lt (by cases neg <;> simp <;> omega)
  refine ⟨?_, ?_, ?_⟩
  · rw [signOf, BitVec.msb_eq_decide, hn]
    cases neg <;> simp; omega
  · simp only [expField, fracBits_32, expBits_32, BitVec.extractLsb'_toNat, hn, Nat.shiftRight_eq_div_pow]
    cases neg <;> (simp; omega)
  · simp only [fracField, fracBits_32, BitVec.extractLsb'_toNat, hn, Nat.shiftRight_eq_div_pow]
    cases neg <;> simp; omega

theorem withSign64_fields (neg : Bool) {n : Nat} (h : n < 2 ^ 63) :
    signOf (withSign 64 neg n) = neg ∧ expField (withSign 64 neg n) = n / 2 ^ 52 ∧
      fracField (withSign 64 neg n) = n % 2 ^ 52 := by
  have hn : (withSign 64 neg n).toNat = (if neg then 2 ^ 63 else 0) + n := by
    simp only [withSign, BitVec.toNat_ofNat]
    exact Nat.mod_eq_of_lt (by cases neg <;> simp <;> omega)
  refine ⟨?_, ?_, ?_⟩
  · rw [signOf, BitVec.msb_eq_decide, hn]
    cases neg <;> simp; omega
  · simp only [expField, fracBits_64, expBits_64, BitVec.extractLsb'_toNat, hn, Nat.shiftRight_eq_div_pow]
    cases neg <;> (simp; omega)
  · simp only [fracField, fracBits_64, BitVec.extractLsb'_toNat, hn, Nat.shiftRight_eq_div_pow]
    cases neg <;> simp; omega

/-! ### Rounding to a natural number (R13, R17) -/

/-- `rneDiv` errs by at most a half. -/
theorem rneDiv_near (num : Nat) {den : Nat} (h : 0 < den) :
    2 * num ≤ (2 * rneDiv num den + 1) * den ∧ (2 * rneDiv num den) * den ≤ 2 * num + den := by
  have e := Nat.div_add_mod num den
  have hr := Nat.mod_lt num h
  unfold rneDiv
  generalize num / den = q at *
  generalize num % den = r at *
  subst e
  dsimp only
  split_ifs <;> constructor <;> nlinarith

/-- On a tie `rneDiv` is even. -/
theorem rneDiv_tie {num den : Nat} (t : 2 * (num % den) = den) : rneDiv num den % 2 = 0 := by
  unfold rneDiv
  simp only [t, lt_irrefl, if_false]
  split_ifs <;> omega

/-- An exact quotient is not changed. -/
theorem rneDiv_exact (q : Nat) {den : Nat} (h : 0 < den) : rneDiv (q * den) den = q := by
  simp [rneDiv, Nat.mul_div_cancel _ h, h]

end Sys2Proof.Machine
end

