-- ==== Sys2Proof/Tests/Slice0.lean ====
section
/-!
SUPPORT. Tests of the model, each a named theorem. The words and expected values of the step tests are those of
spec/95_test_vectors.md where it has one for the instruction, and else worked out by hand from the rule; the words of the
decode tests are written out from the encoding of 30_encoding.md and opcode_table.json. The last part shows, for each
obligation with hypotheses, a state and operands that meet all of them.
-/

namespace Sys2Proof.Tests
open Sys2Proof Sys2Proof.Machine

/-! ### Well-formedness refuses an immediate outside R64's range -/

theorem test_wf_lane_index_4 : (Instr.getPi32 0 0 4).wellFormed = false := by decide
theorem test_wf_lane_index_4_ps : (Instr.getPs 0 0 4).wellFormed = false := by decide
theorem test_wf_lane_index_2 : (Instr.getPi64 0 0 2).wellFormed = false := by decide
theorem test_wf_lane_index_2_pd : (Instr.getPd 0 0 2).wellFormed = false := by decide
theorem test_wf_setlane_4 : (Instr.setlanePi32 0 0 0 4).wellFormed = false := by decide
theorem test_wf_setlane_4_ps : (Instr.setlanePs 0 0 0 4).wellFormed = false := by decide
theorem test_wf_setlane_2 : (Instr.setlanePi64 0 0 0 2).wellFormed = false := by decide
theorem test_wf_setlane_2_pd : (Instr.setlanePd 0 0 0 2).wellFormed = false := by decide
theorem test_wf_selector_4 : (Instr.shufflePi64 0 0 4).wellFormed = false := by decide
theorem test_wf_selector_4_pd : (Instr.shufflePd 0 0 4).wellFormed = false := by decide
theorem test_wf_count_32 : (Instr.slImmPi32 0 0 32).wellFormed = false := by decide
theorem test_wf_count_32_srl : (Instr.srlImmPi32 0 0 32).wellFormed = false := by decide
theorem test_wf_count_32_sra : (Instr.sraImmPi32 0 0 32).wellFormed = false := by decide
theorem test_wf_count_64 : (Instr.slImmPi64 0 0 64).wellFormed = false := by decide
theorem test_wf_count_64_srl : (Instr.srlImmPi64 0 0 64).wellFormed = false := by decide
theorem test_wf_count_64_sra : (Instr.sraImmPi64 0 0 64).wellFormed = false := by decide

/-! ### Decoding: one word for every constructor (R61 to R65), and the illegal words of 95_test_vectors.md section 4 -/

/-- Whether every word decodes to the instruction beside it. -/
def allDecode (l : List (Word × Instr)) : Bool :=
  l.all fun p => match decode p.1 with | .ok i => decide (i = p.2) | .error _ => false

/-- Whether every word is refused by the given case of R66. -/
def allRefused (c : IllegalCase) (ws : List Word) : Bool :=
  ws.all fun w => match decode w with | .ok _ => false | .error e => decide (e = c)

theorem test_decode_halt : allDecode [
    (0x01000000, .halt)] = true := by decide

theorem test_decode_system_1 : allDecode [
    (0x100B0000, .setzeroPi32 11), (0x10400000, .setzeroPi64 0), (0x10850000, .setzeroPs 5),
    (0x10CA0000, .setzeroPd 10), (0x110F2000, .set1Pi32 15 2), (0x11447000, .set1Pi64 4 7),
    (0x1189C000, .set1Ps 9 12), (0x11CE1000, .set1Pd 14 1), (0x120369CF, .setPi32 3 6 9 12 15),
    (0x1248BE00, .setPi64 8 11 14), (0x128D0369, .setPs 13 0 3 6 9), (0x12C25800, .setPd 2 5 8),
    (0x1307AD03, .setFromU32Pi32 7 10 13 0 3), (0x134CF200, .setFromU64Pi64 12 15 2)] = true := by decide

theorem test_decode_system_2 : allDecode [
    (0x138147AD, .setFromU32Ps 1 4 7 10 13), (0x13C69C00, .setFromU64Pd 6 9 12),
    (0x140BE147, .setMaskPi32 11 14 1 4 7), (0x14403600, .setMaskPi64 0 3 6), (0x14858BE1, .setMaskPs 5 8 11 14 1),
    (0x14CAD000, .setMaskPd 10 13 0), (0x150F2003, .getPi32 15 2 3), (0x15447001, .getPi64 4 7 1),
    (0x1589C003, .getPs 9 12 3), (0x15CE1001, .getPd 14 1 1), (0x16036903, .setlanePi32 3 6 9 3),
    (0x1648BE01, .setlanePi64 8 11 14 1), (0x168D0303, .setlanePs 13 0 3 3), (0x16C25801, .setlanePd 2 5 8 1)] = true := by decide

theorem test_decode_system_3 : allDecode [
    (0x1707A09E, .loadUnalignedPi32 7 10 158), (0x174CF0A7, .loadUnalignedPi64 12 15 167),
    (0x178140A0, .loadUnalignedPs 1 4 160), (0x17C690A7, .loadUnalignedPd 6 9 167),
    (0x1800EBA2, .storeUnalignedPi32 11 14 162), (0x184030A7, .storeUnalignedPi64 0 3 167),
    (0x188085A4, .storeUnalignedPs 5 8 164), (0x18C0DAA7, .storeUnalignedPd 10 13 167),
    (0x190F2500, .debugEqPi32 15 2 5), (0x19447A00, .debugEqPi64 4 7 10), (0x1989CF00, .debugEqPs 9 12 15),
    (0x19CE1400, .debugEqPd 14 1 4)] = true := by decide

theorem test_decode_bitcast_1 : allDecode [
    (0x20136000, .bitcastPi32Pi64 3 6), (0x2028B000, .bitcastPi32Ps 8 11), (0x203D0000, .bitcastPi32Pd 13 0),
    (0x20425000, .bitcastPi64Pi32 2 5), (0x2067A000, .bitcastPi64Ps 7 10), (0x207CF000, .bitcastPi64Pd 12 15),
    (0x20814000, .bitcastPsPi32 1 4), (0x20969000, .bitcastPsPi64 6 9), (0x20BBE000, .bitcastPsPd 11 14),
    (0x20C03000, .bitcastPdPi32 0 3), (0x20D58000, .bitcastPdPi64 5 8), (0x20EAD000, .bitcastPdPs 10 13),
    (0x211F2000, .bitcastCmpPi32Pi64 15 2), (0x21247000, .bitcastCmpPi32Ps 4 7)] = true := by decide

theorem test_decode_bitcast_2 : allDecode [
    (0x2139C000, .bitcastCmpPi32Pd 9 12), (0x214E1000, .bitcastCmpPi64Pi32 14 1), (0x21636000, .bitcastCmpPi64Ps 3 6),
    (0x2178B000, .bitcastCmpPi64Pd 8 11), (0x218D0000, .bitcastCmpPsPi32 13 0), (0x21925000, .bitcastCmpPsPi64 2 5),
    (0x21B7A000, .bitcastCmpPsPd 7 10), (0x21CCF000, .bitcastCmpPdPi32 12 15), (0x21D14000, .bitcastCmpPdPi64 1 4),
    (0x21E69000, .bitcastCmpPdPs 6 9), (0x220BE001, .sbitcastU32I32 11 14), (0x22003002, .sbitcastU32F32 0 3),
    (0x22058010, .sbitcastI32U32 5 8), (0x220AD012, .sbitcastI32F32 10 13)] = true := by decide

theorem test_decode_bitcast_3 : allDecode [
    (0x220F2020, .sbitcastF32U32 15 2), (0x22047021, .sbitcastF32I32 4 7), (0x2209C045, .sbitcastU64I64 9 12),
    (0x220E1046, .sbitcastU64F64 14 1), (0x22036054, .sbitcastI64U64 3 6), (0x2208B056, .sbitcastI64F64 8 11),
    (0x220D0064, .sbitcastF64U64 13 0), (0x22025065, .sbitcastF64I64 2 5)] = true := by decide

theorem test_decode_shuffle : allDecode [
    (0x3007A0CE, .shufflePi32 7 10 206), (0x304CF003, .shufflePi64 12 15 3), (0x308140D0, .shufflePs 1 4 208),
    (0x30C69003, .shufflePd 6 9 3)] = true := by decide

theorem test_decode_arithmetic_1 : allDecode [
    (0x400BE100, .addPi32 11 14 1), (0x40403600, .addPi64 0 3 6), (0x40858B00, .addPs 5 8 11),
    (0x40CAD000, .addPd 10 13 0), (0x410F2500, .subPi32 15 2 5), (0x41447A00, .subPi64 4 7 10),
    (0x4189CF00, .subPs 9 12 15), (0x41CE1400, .subPd 14 1 4), (0x42036900, .mulPi32 3 6 9),
    (0x4248BE00, .mulPi64 8 11 14), (0x428D0300, .mulPs 13 0 3), (0x42C25800, .mulPd 2 5 8),
    (0x4307AD00, .divPi32 7 10 13), (0x434CF200, .divPi64 12 15 2)] = true := by decide

theorem test_decode_arithmetic_2 : allDecode [
    (0x43814700, .divPs 1 4 7), (0x43C69C00, .divPd 6 9 12), (0x448BE140, .mulAddPs 11 14 1 4),
    (0x44C03690, .mulAddPd 0 3 6 9), (0x45058B00, .safedivPi32 5 8 11), (0x454AD000, .safedivPi64 10 13 0),
    (0x458F2500, .safedivPs 15 2 5), (0x45C47A00, .safedivPd 4 7 10), (0x4609C000, .negPi32 9 12),
    (0x464E1000, .negPi64 14 1), (0x46836000, .negPs 3 6), (0x46C8B000, .negPd 8 11), (0x470D0000, .absPi32 13 0),
    (0x47425000, .absPi64 2 5)] = true := by decide

theorem test_decode_arithmetic_3 : allDecode [
    (0x4787A000, .absPs 7 10), (0x47CCF000, .absPd 12 15)] = true := by decide

theorem test_decode_bitwise_1 : allDecode [
    (0x50014700, .andPi32 1 4 7), (0x50469C00, .andPi64 6 9 12), (0x508BE100, .andPs 11 14 1),
    (0x50C03600, .andPd 0 3 6), (0x51058B00, .andnotPi32 5 8 11), (0x514AD000, .andnotPi64 10 13 0),
    (0x518F2500, .andnotPs 15 2 5), (0x51C47A00, .andnotPd 4 7 10), (0x5209CF00, .orPi32 9 12 15),
    (0x524E1400, .orPi64 14 1 4), (0x52836900, .orPs 3 6 9), (0x52C8BE00, .orPd 8 11 14),
    (0x530D0300, .xorPi32 13 0 3), (0x53425800, .xorPi64 2 5 8)] = true := by decide

theorem test_decode_bitwise_2 : allDecode [
    (0x5387AD00, .xorPs 7 10 13), (0x53CCF200, .xorPd 12 15 2), (0x54014000, .notPi32 1 4),
    (0x54469000, .notPi64 6 9), (0x548BE000, .notPs 11 14), (0x54C03000, .notPd 0 3)] = true := by decide

theorem test_decode_shift : allDecode [
    (0x6005801F, .slImmPi32 5 8 31), (0x604AD03F, .slImmPi64 10 13 63), (0x610F201F, .srlImmPi32 15 2 31),
    (0x6144703F, .srlImmPi64 4 7 63), (0x6209C01F, .sraImmPi32 9 12 31), (0x624E103F, .sraImmPi64 14 1 63),
    (0x63036900, .slPi32 3 6 9), (0x6348BE00, .slPi64 8 11 14), (0x640D0300, .srlPi32 13 0 3),
    (0x64425800, .srlPi64 2 5 8), (0x6507AD00, .sraPi32 7 10 13), (0x654CF200, .sraPi64 12 15 2)] = true := by decide

theorem test_decode_compare_mask_1 : allDecode [
    (0x70014700, .cmpltPi32 1 4 7), (0x70469C00, .cmpltPi64 6 9 12), (0x708BE100, .cmpltPs 11 14 1),
    (0x70C03600, .cmpltPd 0 3 6), (0x71058B00, .cmplePi32 5 8 11), (0x714AD000, .cmplePi64 10 13 0),
    (0x718F2500, .cmplePs 15 2 5), (0x71C47A00, .cmplePd 4 7 10), (0x7209CF00, .cmpeqPi32 9 12 15),
    (0x724E1400, .cmpeqPi64 14 1 4), (0x72836900, .cmpeqPs 3 6 9), (0x72C8BE00, .cmpeqPd 8 11 14),
    (0x730D0300, .cmpneqPi32 13 0 3), (0x73425800, .cmpneqPi64 2 5 8)] = true := by decide

theorem test_decode_compare_mask_2 : allDecode [
    (0x7387AD00, .cmpneqPs 7 10 13), (0x73CCF200, .cmpneqPd 12 15 2), (0x74014700, .cmpgePi32 1 4 7),
    (0x74469C00, .cmpgePi64 6 9 12), (0x748BE100, .cmpgePs 11 14 1), (0x74C03600, .cmpgePd 0 3 6),
    (0x75058B00, .cmpgtPi32 5 8 11), (0x754AD000, .cmpgtPi64 10 13 0), (0x758F2500, .cmpgtPs 15 2 5),
    (0x75C47A00, .cmpgtPd 4 7 10), (0x7809CF00, .andCmpPi32 9 12 15), (0x784E1400, .andCmpPi64 14 1 4),
    (0x78836900, .andCmpPs 3 6 9), (0x78C8BE00, .andCmpPd 8 11 14)] = true := by decide

theorem test_decode_compare_mask_3 : allDecode [
    (0x790D0300, .orCmpPi32 13 0 3), (0x79425800, .orCmpPi64 2 5 8), (0x7987AD00, .orCmpPs 7 10 13),
    (0x79CCF200, .orCmpPd 12 15 2), (0x7A014700, .xorCmpPi32 1 4 7), (0x7A469C00, .xorCmpPi64 6 9 12),
    (0x7A8BE100, .xorCmpPs 11 14 1), (0x7AC03600, .xorCmpPd 0 3 6), (0x7B058B00, .cmpeqCmpPi32 5 8 11),
    (0x7B4AD000, .cmpeqCmpPi64 10 13 0), (0x7B8F2500, .cmpeqCmpPs 15 2 5), (0x7BC47A00, .cmpeqCmpPd 4 7 10),
    (0x7C09C000, .notCmpPi32 9 12), (0x7C4E1000, .notCmpPi64 14 1)] = true := by decide

theorem test_decode_compare_mask_4 : allDecode [
    (0x7C836000, .notCmpPs 3 6), (0x7CC8B000, .notCmpPd 8 11), (0x7D1D0000, .cvtcmpPi32Pi64 13 0),
    (0x7D225000, .cvtcmpPi32Ps 2 5), (0x7D37A000, .cvtcmpPi32Pd 7 10), (0x7D4CF000, .cvtcmpPi64Pi32 12 15),
    (0x7D614000, .cvtcmpPi64Ps 1 4), (0x7D769000, .cvtcmpPi64Pd 6 9), (0x7D8BE000, .cvtcmpPsPi32 11 14),
    (0x7D903000, .cvtcmpPsPi64 0 3), (0x7DB58000, .cvtcmpPsPd 5 8), (0x7DCAD000, .cvtcmpPdPi32 10 13),
    (0x7DDF2000, .cvtcmpPdPi64 15 2), (0x7DE47000, .cvtcmpPdPs 4 7)] = true := by decide

theorem test_decode_compare_mask_5 : allDecode [
    (0x7E09CF00, .andnotCmpPi32 9 12 15), (0x7E4E1400, .andnotCmpPi64 14 1 4), (0x7E836900, .andnotCmpPs 3 6 9),
    (0x7EC8BE00, .andnotCmpPd 8 11 14)] = true := by decide

theorem test_decode_choose : allDecode [
    (0x800D0360, .choosePi32 13 0 3 6), (0x804258B0, .choosePi64 2 5 8 11), (0x8087AD00, .choosePs 7 10 13 0),
    (0x80CCF250, .choosePd 12 15 2 5), (0x81014700, .chooseElseZeroPi32 1 4 7),
    (0x81469C00, .chooseElseZeroPi64 6 9 12), (0x818BE100, .chooseElseZeroPs 11 14 1),
    (0x81C03600, .chooseElseZeroPd 0 3 6)] = true := by decide

theorem test_decode_minmax : allDecode [
    (0x90058B00, .minPi32 5 8 11), (0x904AD000, .minPi64 10 13 0), (0x910F2500, .maxPi32 15 2 5),
    (0x91447A00, .maxPi64 4 7 10), (0x9289CF00, .minFastPs 9 12 15), (0x92CE1400, .minFastPd 14 1 4),
    (0x93836900, .maxFastPs 3 6 9), (0x93C8BE00, .maxFastPd 8 11 14), (0x940D0360, .constrainPi32 13 0 3 6),
    (0x944258B0, .constrainPi64 2 5 8 11), (0x9487AD00, .constrainPs 7 10 13 0), (0x94CCF250, .constrainPd 12 15 2 5),
    (0x95814000, .removeSignedZeroPs 1 4), (0x95C69000, .removeSignedZeroPd 6 9)] = true := by decide

theorem test_decode_convert_1 : allDecode [
    (0xA01BE000, .cvtPi32Pi64 11 14), (0xA0203000, .cvtPi32Ps 0 3), (0xA0358000, .cvtPi32Pd 5 8),
    (0xA04AD000, .cvtPi64Pi32 10 13), (0xA06F2000, .cvtPi64Ps 15 2), (0xA0747000, .cvtPi64Pd 4 7),
    (0xA089C000, .cvtPsPi32 9 12), (0xA09E1000, .cvtPsPi64 14 1), (0xA0B36000, .cvtPsPd 3 6),
    (0xA0C8B000, .cvtPdPi32 8 11), (0xA0DD0000, .cvtPdPi64 13 0), (0xA0E25000, .cvtPdPs 2 5),
    (0xA187A000, .cvttPsPi32 7 10), (0xA19CF000, .cvttPsPi64 12 15)] = true := by decide

theorem test_decode_convert_2 : allDecode [
    (0xA1C14000, .cvttPdPi32 1 4), (0xA1D69000, .cvttPdPi64 6 9), (0xA28BE000, .cvtfPsPi32 11 14),
    (0xA2903000, .cvtfPsPi64 0 3), (0xA2C58000, .cvtfPdPi32 5 8), (0xA2DAD000, .cvtfPdPi64 10 13)] = true := by decide

theorem test_illegal_opcode :
    allRefused .opcode [0x00000000, 0xFFFFFFFF, 0x02000000, 0x76020100, 0x55010000, 0xA3810000] = true := by decide
theorem test_illegal_kind :
    allRefused .kind [0x01400000, 0x20010000, 0x21F10000, 0x22410021, 0x30110000, 0x40120100, 0x44030120, 0x60810001,
      0x63820100, 0x7D010000, 0x90820100, 0x92020100, 0x95010000, 0xA0010000, 0xA1210000, 0xA2B10000] = true := by
      decide
theorem test_illegal_unusedField :
    allRefused .unusedField [0x01000001, 0x01010000, 0x10030001, 0x11012100, 0x12401020, 0x17041105, 0x18812420,
      0x19001101, 0x40020101, 0x54C10100] = true := by decide
theorem test_illegal_immediate :
    allRefused .immediate [0x15051004, 0x15451002, 0x16C21902, 0x22010011, 0x22010024, 0x22010031, 0x30410004,
      0x60010020, 0x62410040] = true := by decide

/-! ### One step each -/

/-- A running block with `MEM_SIZE` = 0x1000 and `IMEM_SIZE` = 0x100, `pc` = 0x40, the given registers, zero in the
others, and nothing in memory. -/
def sample (fused : Bool) (vs : List (VReg × Vec)) (ss : List (SReg × Scalar)) : State :=
  { v := vs.foldl (fun v p => v.set p.1 p.2) (Vector.replicate 16 0)
    s := ss.foldl (fun v p => v.set p.1 p.2) (Vector.replicate 16 0)
    pc := 0x40, rs := .running, cause := 0, fpc := 0, finfo := 0, dmem := [], imem := []
    params := { memSize := 0x1000, imemSize := 0x100, backend := .sse2, fusedMulAdd := fused }
    draws := 1, runStores := [] }

/-- `sample` of a block built with `FUSED_MUL_ADD` false. -/
def unfusedBlock (vs : List (VReg × Vec)) (ss : List (SReg × Scalar)) : State := sample false vs ss

/-- `sample` of a block built with `FUSED_MUL_ADD` true. -/
def fusedBlock (vs : List (VReg × Vec)) (ss : List (SReg × Scalar)) : State := sample true vs ss

/-- `sample` where `FUSED_MUL_ADD` makes no difference. -/
def block (vs : List (VReg × Vec)) (ss : List (SReg × Scalar)) : State := sample true vs ss

/-- Whether the step that fetches word `w` completes and leaves a state that passes `p`. -/
def stepOk (w : Word) (s : State) (p : State → Bool) : Bool :=
  match step (s.withFetchWord 32 w.toNat) with
  | .next t => decide (t.rs = .running) && decide (t.pc = 0x44) && p t
  | _ => false

/-- Whether the step leaves `x` in vector register `rd`. -/
def givesV (w : Word) (s : State) (rd : VReg) (x : Vec) : Bool := stepOk w s fun t => decide (readV t rd = x)

/-- Whether the step leaves `x` in scalar register `rd`. -/
def givesS (w : Word) (s : State) (rd : SReg) (x : Scalar) : Bool := stepOk w s fun t => decide (readS t rd = x)

theorem test_setzeroPi32_1 :
    givesV 0x10010000 (block [(1, 0x800000017FFFFFFFFFFFFFFE00000005)] []) 1 0 = true := by decide
theorem test_setzeroPi64_1 :
    givesV 0x10410000 (block [(1, 0x800000017FFFFFFFFFFFFFFE00000005)] []) 1 0 = true := by decide
theorem test_setzeroPs_1 :
    givesV 0x10810000 (block [(1, 0x800000017FFFFFFFFFFFFFFE00000005)] []) 1 0 = true := by decide
theorem test_setzeroPd_1 : givesV 0x10C30000 (block [] []) 3 0 = true := by decide
theorem test_set1Pi32_1 :
    givesV 0x11012000 (block [] [(2, 0xFFFFFFFF80000001)]) 1 0x80000001800000018000000180000001 = true := by decide
theorem test_set1Pi64_1 :
    givesV 0x11412000 (block [] [(2, 0xFFFFFFFFFFFFFFFE)]) 1 0xFFFFFFFFFFFFFFFEFFFFFFFFFFFFFFFE = true := by decide
theorem test_set1Ps_1 :
    givesV 0x11812000 (block [] [(2, 0xDEADBEEF40200000)]) 1 0x40200000402000004020000040200000 = true := by decide
theorem test_set1Pd_1 :
    givesV 0x11C12000 (block [] [(2, 0x4004000000000000)]) 1 0x40040000000000004004000000000000 = true := by decide
theorem test_setPi32_1 :
    givesV 0x12004321 (block [] [(4, 0x0000000000000003), (3, 0x0000000000000002), (2, 0x0000000000000001), (1, 0)])
      0 0x00000003000000020000000100000000 = true := by decide
theorem test_setPi32_2 :
    givesV 0x12004321 (block [] [(4, 0x0000000000000003), (3, 0x0000000000000002), (2, 0x0000000000000001), (1, 0)])
      0 0x00000003000000020000000100000000 = true := by decide
theorem test_setPi64_1 :
    givesV 0x12401000 (block [] [(1, 0xFFFFFFFFFFFFFFFC), (0, 0xFFFFFFFFFFFFFFFE)]) 0
      0xFFFFFFFFFFFFFFFCFFFFFFFFFFFFFFFE = true := by decide
theorem test_setPs_1 :
    givesV 0x12803210 (block [] [(3, 0x0000000040800000), (2, 0), (1, 0x0000000080000000), (0, 0x0000000040800000)])
      0 0x40800000000000008000000040800000 = true := by decide
theorem test_setPd_1 :
    givesV 0x12C01000 (block [] [(1, 0x8000000000000000), (0, 0x3FF0000000000000)]) 0
      0x80000000000000003FF0000000000000 = true := by decide
theorem test_setFromU32Pi32_1 :
    givesV 0x13023210 (block [] [(3, 0x0000000080000000), (2, 0x000000007FFFFFFF), (1, 0xFFFFFFFF00000005), (0, 0)])
      2 0x800000007FFFFFFF0000000500000000 = true := by decide
theorem test_setFromU64Pi64_1 :
    givesV 0x13412300 (block [] [(2, 0x8000000000000001), (3, 0x0000000000000005)]) 1
      0x80000000000000010000000000000005 = true := by decide
theorem test_setFromU32Ps_1 :
    givesV 0x13823210 (block [] [(3, 0x000000007FC00001), (2, 0x00000000FFFFFFFF), (1, 0x0000000080000000), (0,
      0x0000000000000001)]) 2 0x7FC00001FFFFFFFF8000000000000001 = true := by decide
theorem test_setFromU64Pd_1 :
    givesV 0x13C21000 (block [] [(1, 0x7FF0000000000000), (0, 0x0000000000000001)]) 2
      0x7FF00000000000000000000000000001 = true := by decide
theorem test_setMaskPi32_1 :
    givesV 0x14063210 (block [] [(3, 0x0000000000000001), (2, 0), (1, 0x0000000100000000), (0, 0)]) 6
      0xFFFFFFFF00000000FFFFFFFF00000000 = true := by decide
theorem test_setMaskPi64_1 : givesV 0x14450000 (block [] [(0, 0)]) 5 0 = true := by decide
theorem test_setMaskPi64_2 : givesV 0x14461000 (block [] [(1, 0), (0, 0)]) 6 0 = true := by decide
theorem test_setMaskPs_1 :
    givesV 0x14863210 (block [] [(3, 0x0000000000000001), (2, 0), (1, 0xFFFFFFFFFFFFFFFF), (0, 0)]) 6
      0xFFFFFFFF00000000FFFFFFFF00000000 = true := by decide
theorem test_setMaskPd_1 :
    givesV 0x14C61000 (block [] [(1, 0), (0, 0x0000000000000002)]) 6 0x0000000000000000FFFFFFFFFFFFFFFF = true := by
      decide
theorem test_getPi32_1 :
    givesS 0x15051003 (block [(1, 0x800000037FC0000100000001FFFFFFFE)] []) 5 0xFFFFFFFF80000003 = true := by decide
theorem test_getPi32_2 :
    givesS 0x15051000 (block [(1, 0x800000037FC0000100000001FFFFFFFE)] []) 5 0xFFFFFFFFFFFFFFFE = true := by decide
theorem test_getPi64_1 :
    givesS 0x15451001 (block [(1, 0x800000037FC0000100000001FFFFFFFE)] []) 5 0x800000037FC00001 = true := by decide
theorem test_getPs_1 :
    givesS 0x15851003 (block [(1, 0x800000037FC0000100000001FFFFFFFE)] []) 5 0x0000000080000003 = true := by decide
theorem test_getPs_2 :
    givesS 0x15851002 (block [(1, 0x800000037FC0000100000001FFFFFFFE)] []) 5 0x000000007FC00001 = true := by decide
theorem test_getPd_1 :
    givesS 0x15C51000 (block [(1, 0x800000037FC0000100000001FFFFFFFE)] []) 5 0x00000001FFFFFFFE = true := by decide
theorem test_setlanePi32_1 :
    givesV 0x16021900 (block [(1, 0x800000037FC0000100000001FFFFFFFE)] [(9, 0xAAAAAAAA00000007)]) 2
      0x800000037FC000010000000100000007 = true := by decide
theorem test_setlanePi64_1 :
    givesV 0x16421901 (block [(1, 0x800000037FC0000100000001FFFFFFFE)] [(9, 0x0123456789ABCDEF)]) 2
      0x0123456789ABCDEF00000001FFFFFFFE = true := by decide
theorem test_setlanePs_1 :
    givesV 0x16821903 (block [(1, 0x800000037FC0000100000001FFFFFFFE)] [(9, 0x000000003F800000)]) 2
      0x3F8000007FC0000100000001FFFFFFFE = true := by decide
theorem test_setlanePd_1 :
    givesV 0x16C11900 (block [(1, 0x800000037FC0000100000001FFFFFFFE)] [(9, 0xC000000000000000)]) 1
      0x800000037FC00001C000000000000000 = true := by decide
theorem test_debugEqPi32_1 :
    givesS 0x19030100 (block [(0, 0x800000017FFFFFFFFFFFFFFE00000005), (1, 0x800000017FFFFFFF00000003FFFFFFF6)] []) 3
      0 = true := by decide
theorem test_debugEqPi64_1 :
    givesS 0x19401200 (block [(1, 0x00000000000000010000000000000002), (2, 0x80000000000000010000000000000002)] []) 0
      0 = true := by decide
theorem test_debugEqPs_1 :
    givesS 0x19801200 (block [(1, 0), (2, 0x00000000000000000000000080000000)] []) 0 0 = true := by decide
theorem test_debugEqPs_2 :
    givesS 0x19801200 (block [(1, 0x7FC000003F8000004000000040400000), (2, 0x7FC000003F8000004000000040400000)] []) 0
      0x0000000000000001 = true := by decide
theorem test_debugEqPd_1 :
    givesS 0x19C01100 (block [(1, 0x7FF80000000000000000000000000000)] []) 0 0x0000000000000001 = true := by decide
theorem test_bitcastPi32Pi64_1 :
    givesV 0x20120000 (block [(0, 0x00000008000000080000000700000007)] []) 2 0x00000008000000080000000700000007 =
      true := by decide
theorem test_bitcastPi32Pi64_2 :
    givesV 0x20110000 (block [(0, 0x00000008000000080000000700000007)] []) 1 0x00000008000000080000000700000007 =
      true := by decide
theorem test_bitcastPi32Ps_1 :
    givesV 0x20221000 (block [(1, 0x3F800000800000007FC0000100000001)] []) 2 0x3F800000800000007FC0000100000001 =
      true := by decide
theorem test_bitcastPi32Pd_1 :
    givesV 0x20310000 (block [(0, 0x800000017FFFFFFFFFFFFFFE00000005)] []) 1 0x800000017FFFFFFFFFFFFFFE00000005 =
      true := by decide
theorem test_bitcastPi64Pi32_1 :
    givesV 0x20410000 (block [(0, 0xFFFFFFFFFFFFFFFC0000000000000001)] []) 1 0xFFFFFFFFFFFFFFFC0000000000000001 =
      true := by decide
theorem test_bitcastPi64Ps_1 :
    givesV 0x20610000 (block [(0, 0x800000017FFFFFFFFFFFFFFE00000005)] []) 1 0x800000017FFFFFFFFFFFFFFE00000005 =
      true := by decide
theorem test_bitcastPi64Pd_1 :
    givesV 0x20710000 (block [(0, 0x800000017FFFFFFFFFFFFFFE00000005)] []) 1 0x800000017FFFFFFFFFFFFFFE00000005 =
      true := by decide
theorem test_bitcastPsPi32_1 :
    givesV 0x20810000 (block [(0, 0x3F800000800000007FC0000100000001)] []) 1 0x3F800000800000007FC0000100000001 =
      true := by decide
theorem test_bitcastPsPi32_2 :
    givesV 0x20810000 (block [(0, 0x3F800000800000007FC0000100000001)] []) 1 0x3F800000800000007FC0000100000001 =
      true := by decide
theorem test_bitcastPsPi64_1 :
    givesV 0x20910000 (block [(0, 0x800000017FFFFFFFFFFFFFFE00000005)] []) 1 0x800000017FFFFFFFFFFFFFFE00000005 =
      true := by decide
theorem test_bitcastPsPd_1 :
    givesV 0x20B10000 (block [(0, 0x800000017FFFFFFFFFFFFFFE00000005)] []) 1 0x800000017FFFFFFFFFFFFFFE00000005 =
      true := by decide
theorem test_bitcastPdPi32_1 :
    givesV 0x20C10000 (block [(0, 0x800000017FFFFFFFFFFFFFFE00000005)] []) 1 0x800000017FFFFFFFFFFFFFFE00000005 =
      true := by decide
theorem test_bitcastPdPi64_1 :
    givesV 0x20D10000 (block [(0, 0x800000017FFFFFFFFFFFFFFE00000005)] []) 1 0x800000017FFFFFFFFFFFFFFE00000005 =
      true := by decide
theorem test_bitcastPdPs_1 :
    givesV 0x20E10000 (block [(0, 0x40040000000000004004000000000000)] []) 1 0x40040000000000004004000000000000 =
      true := by decide
theorem test_bitcastCmpPi32Pi64_1 :
    givesV 0x21110000 (block [(0, 0xFFFFFFFF00000000FFFFFFFFFFFFFFFF)] []) 1 0xFFFFFFFF00000000FFFFFFFFFFFFFFFF =
      true := by decide
theorem test_bitcastCmpPi32Ps_1 :
    givesV 0x21210000 (block [(0, 0xFFFFFFFF00000000FFFFFFFF00000000)] []) 1 0xFFFFFFFF00000000FFFFFFFF00000000 =
      true := by decide
theorem test_bitcastCmpPi32Pd_1 :
    givesV 0x21310000 (block [(0, 0xFFFFFFFF00000000FFFFFFFF00000000)] []) 1 0xFFFFFFFF00000000FFFFFFFF00000000 =
      true := by decide
theorem test_bitcastCmpPi64Pi32_1 :
    givesV 0x21410000 (block [(0, 0xFFFFFFFFFFFFFFFF0000000000000000)] []) 1 0xFFFFFFFFFFFFFFFF0000000000000000 =
      true := by decide
theorem test_bitcastCmpPi64Ps_1 :
    givesV 0x21610000 (block [(0, 0xFFFFFFFFFFFFFFFF0000000000000000)] []) 1 0xFFFFFFFFFFFFFFFF0000000000000000 =
      true := by decide
theorem test_bitcastCmpPi64Pd_1 :
    givesV 0x21710000 (block [(0, 0xFFFFFFFFFFFFFFFF0000000000000000)] []) 1 0xFFFFFFFFFFFFFFFF0000000000000000 =
      true := by decide
theorem test_bitcastCmpPsPi32_1 :
    givesV 0x21810000 (block [(0, 0xFFFFFFFF00000000FFFFFFFF00000000)] []) 1 0xFFFFFFFF00000000FFFFFFFF00000000 =
      true := by decide
theorem test_bitcastCmpPsPi64_1 :
    givesV 0x21910000 (block [(0, 0xFFFFFFFF00000000FFFFFFFF00000000)] []) 1 0xFFFFFFFF00000000FFFFFFFF00000000 =
      true := by decide
theorem test_bitcastCmpPsPd_1 :
    givesV 0x21B10000 (block [(0, 0xFFFFFFFF00000000FFFFFFFF00000000)] []) 1 0xFFFFFFFF00000000FFFFFFFF00000000 =
      true := by decide
theorem test_bitcastCmpPdPi32_1 :
    givesV 0x21C10000 (block [(0, 0xFFFFFFFFFFFFFFFF0000000000000000)] []) 1 0xFFFFFFFFFFFFFFFF0000000000000000 =
      true := by decide
theorem test_bitcastCmpPdPi64_1 :
    givesV 0x21D10000 (block [(0, 0xFFFFFFFFFFFFFFFF0000000000000000)] []) 1 0xFFFFFFFFFFFFFFFF0000000000000000 =
      true := by decide
theorem test_bitcastCmpPdPs_1 :
    givesV 0x21E10000 (block [(0, 0xFFFFFFFFFFFFFFFF0000000000000000)] []) 1 0xFFFFFFFFFFFFFFFF0000000000000000 =
      true := by decide
theorem test_sbitcastU32I32_1 :
    givesS 0x22010001 (block [] [(0, 0xFEDCBA9887654321)]) 1 0xFFFFFFFF87654321 = true := by decide
theorem test_sbitcastU32F32_1 :
    givesS 0x22010002 (block [] [(0, 0x123456783F800000)]) 1 0x000000003F800000 = true := by decide
theorem test_sbitcastI32U32_1 :
    givesS 0x22010010 (block [] [(0, 0xFFFFFFFFC0200000)]) 1 0x00000000C0200000 = true := by decide
theorem test_sbitcastI32F32_1 :
    givesS 0x22010012 (block [] [(0, 0xFFFFFFFFFFFFFFFF)]) 1 0x00000000FFFFFFFF = true := by decide
theorem test_sbitcastF32U32_1 :
    givesS 0x22010020 (block [] [(0, 0xFEDCBA9887654321)]) 1 0x0000000087654321 = true := by decide
theorem test_sbitcastF32I32_1 :
    givesS 0x22010021 (block [] [(0, 0x00000000C0200000)]) 1 0xFFFFFFFFC0200000 = true := by decide
theorem test_sbitcastU64I64_1 :
    givesS 0x22010045 (block [] [(0, 0xFEDCBA9887654321)]) 1 0xFEDCBA9887654321 = true := by decide
theorem test_sbitcastU64F64_1 :
    givesS 0x22010046 (block [] [(0, 0x7FF0000000000000)]) 1 0x7FF0000000000000 = true := by decide
theorem test_sbitcastI64U64_1 :
    givesS 0x22010054 (block [] [(0, 0xFEDCBA9887654321)]) 1 0xFEDCBA9887654321 = true := by decide
theorem test_sbitcastI64F64_1 :
    givesS 0x22010056 (block [] [(0, 0xFEDCBA9887654321)]) 1 0xFEDCBA9887654321 = true := by decide
theorem test_sbitcastF64U64_1 :
    givesS 0x22010064 (block [] [(0, 0xFEDCBA9887654321)]) 1 0xFEDCBA9887654321 = true := by decide
theorem test_sbitcastF64I64_1 :
    givesS 0x22010065 (block [] [(0, 0x8000000000000000)]) 1 0x8000000000000000 = true := by decide
theorem test_shufflePi32_1 :
    givesV 0x3001001B (block [(0, 0x00000003000000020000000100000000)] []) 1 0x00000000000000010000000200000003 =
      true := by decide
theorem test_shufflePi32_2 :
    givesV 0x3001004E (block [(0, 0xDDDDDDDDCCCCCCCCBBBBBBBBAAAAAAAA)] []) 1 0xBBBBBBBBAAAAAAAADDDDDDDDCCCCCCCC =
      true := by decide
theorem test_shufflePi64_1 :
    givesV 0x30410001 (block [(0, 0xDDDDDDDDCCCCCCCCBBBBBBBBAAAAAAAA)] []) 1 0xBBBBBBBBAAAAAAAADDDDDDDDCCCCCCCC =
      true := by decide
theorem test_shufflePi64_2 :
    givesV 0x30410001 (block [(0, 0xDDDDDDDDCCCCCCCCBBBBBBBBAAAAAAAA)] []) 1 0xBBBBBBBBAAAAAAAADDDDDDDDCCCCCCCC =
      true := by decide
theorem test_shufflePs_1 :
    givesV 0x308100E4 (block [(0, 0xDDDDDDDDCCCCCCCCBBBBBBBBAAAAAAAA)] []) 1 0xDDDDDDDDCCCCCCCCBBBBBBBBAAAAAAAA =
      true := by decide
theorem test_shufflePs_2 :
    givesV 0x3080003D (block [(0, 0xDDDDDDDDCCCCCCCCBBBBBBBBAAAAAAAA)] []) 0 0xAAAAAAAADDDDDDDDDDDDDDDDBBBBBBBB =
      true := by decide
theorem test_shufflePd_1 :
    givesV 0x30C10002 (block [(0, 0xDDDDDDDDCCCCCCCCBBBBBBBBAAAAAAAA)] []) 1 0xDDDDDDDDCCCCCCCCBBBBBBBBAAAAAAAA =
      true := by decide
theorem test_shufflePd_2 :
    givesV 0x30C10003 (block [(0, 0xDDDDDDDDCCCCCCCCBBBBBBBBAAAAAAAA)] []) 1 0xDDDDDDDDCCCCCCCCDDDDDDDDCCCCCCCC =
      true := by decide
theorem test_addPi32_1 :
    givesV 0x40020100 (block [(0, 0x7FFFFFFF00000005FFFFFFFF80000000), (1, 0x00000001FFFFFFF90000000180000000)] []) 2
      0x80000000FFFFFFFE0000000000000000 = true := by decide
theorem test_addPi64_1 :
    givesV 0x40420100 (block [(0, 0x7FFFFFFFFFFFFFFF00000000FFFFFFFF), (1, 0x00000000000000010000000000000001)] []) 2
      0x80000000000000000000000100000000 = true := by decide
theorem test_addPs_1 :
    givesV 0x40820100 (block [(0, 0x3F8000003F800000800000003DCCCCCD), (1, 0x4000000040000000800000003E4CCCCD)] []) 2
      0x4040000040400000800000003E99999A = true := by decide
theorem test_addPs_2 :
    givesV 0x40820100 (block [(0, 0x000000003F8000007F7FFFFF00000000), (1, 0x80000000338000007F7FFFFF80000000)] []) 2
      0x000000003F8000007F80000000000000 = true := by decide
theorem test_addPd_1 :
    givesV 0x40C20100 (block [(0, 0x3FB999999999999A3FF0000000000000), (1, 0x3FC999999999999A3CA0000000000000)] []) 2
      0x3FD33333333333343FF0000000000000 = true := by decide +kernel
theorem test_subPi32_1 :
    givesV 0x41020100 (block [(0, 0x00000000800000000000000500000003), (1, 0x000000010000000100000005FFFFFFFC)] []) 2
      0xFFFFFFFF7FFFFFFF0000000000000007 = true := by decide
theorem test_subPi64_1 :
    givesV 0x41420100 (block [(0, 0x00000000000000000000000100000000), (1, 0x00000000000000010000000000000001)] []) 2
      0xFFFFFFFFFFFFFFFF00000000FFFFFFFF = true := by decide
theorem test_subPs_1 :
    givesV 0x41820100 (block [(0, 0x40B000008000000040B000003F800000), (1, 0x40B000000000000040B0000040400000)] []) 2
      0x000000008000000000000000C0000000 = true := by decide
theorem test_subPd_1 :
    givesV 0x41C20100 (block [(0, 0x3FF0000000000000FFF0000000000000), (1, 0x3CA00000000000003FF0000000000000)] []) 2
      0x3FEFFFFFFFFFFFFFFFF0000000000000 = true := by decide +kernel
theorem test_mulPi32_1 :
    givesV 0x42020100 (block [(0, 0xFFFFFFEFFFFFFFF5FFFFFFFBFFFFFFFF), (1, 0x0000000D000000070000000300000002)] []) 2
      0xFFFFFF23FFFFFFB3FFFFFFF1FFFFFFFE = true := by decide
theorem test_mulPi32_2 :
    givesV 0x42020100 (block [(0, 0x000100007FFFFFFF8000000012345678), (1, 0x0001000000000002FFFFFFFF9ABCDEF0)] []) 2
      0x00000000FFFFFFFE80000000242D2080 = true := by decide
theorem test_mulPi64_1 :
    givesV 0x42420100 (block [(0, 0x0000000100000000FFFFFFFFFFFFFFFD), (1, 0x00000001000000000000000000000005)] []) 2
      0x0000000000000000FFFFFFFFFFFFFFF1 = true := by decide
theorem test_mulPi64_2 :
    givesV 0x42420100 (block [(0, 0x123456789ABCDEF07FFFFFFFFFFFFFFF), (1, 0x0FEDCBA9876543210000000000000002)] []) 2
      0x2236D88FE5618CF0FFFFFFFFFFFFFFFE = true := by decide
theorem test_mulPs_1 :
    givesV 0x42820100 (block [(0, 0x0080000000000001FF8000003FC00000), (1, 0x3F00000000000001BF8000003FC00000)] []) 2
      0x00400000000000007F80000040100000 = true := by decide
theorem test_mulPs_2 :
    givesV 0x42820100 (block [(0, 0xC000000000000000C00000007F000000), (1, 0x40400000C0A000004040000040000000)] []) 2
      0xC0C0000080000000C0C000007F800000 = true := by decide
theorem test_mulPd_1 :
    givesV 0x42C20100 (block [(0, 0x3FF0000000400000BFE0000000000000), (1, 0x3FF00000004000008000000000000000)] []) 2
      0x3FF00000008000000000000000000000 = true := by decide +kernel
theorem test_divPi32_1 :
    givesV 0x43020100 (block [(0, 0xFFFFFFF9000000008000000080000000), (1, 0xFFFFFFFE000000050000000100000002)] []) 2
      0x000000030000000080000000C0000000 = true := by decide
theorem test_divPi32_2 :
    givesV 0x43020100 (block [(0, 0x00000064FFFFFF9C0000006400000007), (1, 0x000000070000000700000007FFFFFFFE)] []) 2
      0x0000000EFFFFFFF20000000EFFFFFFFD = true := by decide
theorem test_divPi64_1 :
    givesV 0x43420100 (block [(0, 0xFFFFFFFFFFFFFFF7FFFFFFFFFFFFFFF7), (1, 0x00000000000000040000000000000004)] []) 2
      0xFFFFFFFFFFFFFFFEFFFFFFFFFFFFFFFE = true := by decide
theorem test_divPi64_2 :
    givesV 0x43420100 (block [(0, 0x00000100000000000000010000000000), (1, 0x00000000000000030000000000000003)] []) 2
      0x00000055555555550000005555555555 = true := by decide
theorem test_divPs_1 :
    givesV 0x43820100 (block [(0, 0x3F800000BF8000003F8000003F800000), (1, 0x00000000000000000000000040400000)] []) 2
      0x7F800000FF8000007F8000003EAAAAAB = true := by decide
theorem test_divPs_2 :
    givesV 0x43820100 (block [(0, 0x3F8000003F80000040A0000041000000), (1, 0x80000000800000007F80000040800000)] []) 2
      0xFF800000FF8000000000000040000000 = true := by decide
theorem test_divPd_1 :
    givesV 0x43C20100 (block [(0, 0x3FF0000000000000C01C000000000000), (1, 0x40080000000000004000000000000000)] []) 2
      0x3FD5555555555555C00C000000000000 = true := by decide +kernel
theorem test_mulAddPs_1 :
    givesV 0x44830120 (fusedBlock [(0, 0x3F800800404000000000000040000000), (1, 0x3F80080040000000BF80000040400000),
      (2, 0xBF8000003F80000000000000C0C00000)] []) 3 0x3A00040040E000000000000000000000 = true := by decide
theorem test_mulAddPs_2 :
    givesV 0x44830120 (unfusedBlock [(0, 0x3F800800404000000000000040000000), (1,
      0x3F80080040000000BF80000040400000), (2, 0xBF8000003F80000000000000C0C00000)] []) 3
      0x3A00000040E000000000000000000000 = true := by decide
theorem test_mulAddPd_1 :
    givesV 0x44C30120 (fusedBlock [(0, 0x3FF00000004000004000000000000000), (1, 0x3FF00000004000004008000000000000),
      (2, 0xBFF00000000000004010000000000000)] []) 3 0x3E200000002000004024000000000000 = true := by decide +kernel
theorem test_mulAddPd_2 :
    givesV 0x44C30120 (unfusedBlock [(0, 0x3FF00000004000004000000000000000), (1,
      0x3FF00000004000004008000000000000), (2, 0xBFF00000000000004010000000000000)] []) 3
      0x3E200000000000004024000000000000 = true := by decide +kernel
theorem test_safedivPi32_1 :
    givesV 0x45030100 (block [(0, 0x00000064FFFFFF9C0000000500000007), (1, 0x000000070000000700000000FFFFFFFE)] []) 3
      0x0000000EFFFFFFF200000005FFFFFFFD = true := by decide
theorem test_safedivPi32_2 :
    givesV 0x45020100 (block [(0, 0x00000007FFFFFFF90000000500000007), (1, 0xFFFFFFFE0000000000000000FFFFFFFE)] []) 2
      0xFFFFFFFDFFFFFFF900000005FFFFFFFD = true := by decide
theorem test_safedivPi64_1 :
    givesV 0x45420100 (block [(0, 0xFFFFFFFFFFFFFFF7000000000000007B), (1, 0x00000000000000040000000000000000)] []) 2
      0xFFFFFFFFFFFFFFFE000000000000007B = true := by decide
theorem test_safedivPs_1 :
    givesV 0x45820100 (block [(0, 0x41000000410000004100000041000000), (1, 0x40800000000000008000000040800000)] []) 2
      0x40000000410000004100000040000000 = true := by decide
theorem test_safedivPs_2 :
    givesV 0x45820100 (block [(0, 0x41000000410000004100000041000000), (1, 0x40800000000000008000000040800000)] []) 2
      0x40000000410000004100000040000000 = true := by decide
theorem test_safedivPd_1 :
    givesV 0x45C20100 (block [(0, 0xC0080000000000003FF0000000000000), (1, 0x8000000000000000C010000000000000)] []) 2
      0xC008000000000000BFD0000000000000 = true := by decide +kernel
theorem test_negPi32_1 :
    givesV 0x46010000 (block [(0, 0x00000001FFFFFFFF0000000080000000)] []) 1 0xFFFFFFFF000000010000000080000000 =
      true := by decide
theorem test_negPi64_1 :
    givesV 0x46410000 (block [(0, 0x80000000000000000000000000000005)] []) 1 0x8000000000000000FFFFFFFFFFFFFFFB =
      true := by decide
theorem test_negPs_1 :
    givesV 0x46810000 (block [(0, 0x00000000800000003F8000007FC00000)] []) 1 0x8000000000000000BF800000FFC00000 =
      true := by decide
theorem test_negPs_2 :
    givesV 0x46810000 (block [(0, 0x3F800000000000007FC00001FF800000)] []) 1 0xBF80000080000000FFC000017F800000 =
      true := by decide
theorem test_negPd_1 :
    givesV 0x46C10000 (block [(0, 0x80000000000000004004000000000000)] []) 1 0x0000000000000000C004000000000000 =
      true := by decide
theorem test_absPi32_1 :
    givesV 0x47010000 (block [(0, 0xFFFFFFFB000000050000000080000000)] []) 1 0x00000005000000050000000080000000 =
      true := by decide
theorem test_absPi64_1 :
    givesV 0x47410000 (block [(0, 0x8000000000000000FFFFFFFFFFFFFFF9)] []) 1 0x80000000000000000000000000000007 =
      true := by decide
theorem test_absPs_1 :
    givesV 0x47810000 (block [(0, 0x80000000C02000000000000040200000)] []) 1 0x00000000402000000000000040200000 =
      true := by decide
theorem test_absPs_2 :
    givesV 0x47810000 (block [(0, 0xC020000080000000FFC00001FF800000)] []) 1 0x40200000000000007FC000017F800000 =
      true := by decide
theorem test_absPd_1 :
    givesV 0x47C10000 (block [(0, 0x8000000000000000BFF0000000000000)] []) 1 0x00000000000000003FF0000000000000 =
      true := by decide
theorem test_andPi32_1 :
    givesV 0x50020100 (block [(0, 0xFFFF00000F0F0F0F8000000012345678), (1, 0x00FFFF00FFFFFFFF800000000000FFFF)] []) 2
      0x00FF00000F0F0F0F8000000000005678 = true := by decide
theorem test_andPi64_1 :
    givesV 0x50420100 (block [(0, 0x800000017FFFFFFFFFFFFFFE00000005), (1, 0x800000017FFFFFFF00000003FFFFFFF6)] []) 2
      0x800000017FFFFFFF0000000200000004 = true := by decide
theorem test_andPs_1 :
    givesV 0x50820100 (block [(0, 0xC020000080000000FFC00001FF800000), (1, 0x7FFFFFFF7FFFFFFF7FFFFFFF7FFFFFFF)] []) 2
      0x40200000000000007FC000017F800000 = true := by decide
theorem test_andPd_1 :
    givesV 0x50C20100 (block [(0, 0x800000017FFFFFFFFFFFFFFE00000005), (1, 0x800000017FFFFFFF00000003FFFFFFF6)] []) 2
      0x800000017FFFFFFF0000000200000004 = true := by decide
theorem test_andnotPi32_1 :
    givesV 0x51020100 (block [(0, 0x0000FFFF0000FFFF0000FFFF0000FFFF), (1, 0x00FFFF0000FFFF0000FFFF0000FFFF00)] []) 2
      0x00FF000000FF000000FF000000FF0000 = true := by decide
theorem test_andnotPi32_2 :
    givesV 0x51021000 (block [(0, 0xFFFF00000F0F0F0F8000000012345678), (1, 0x00FFFF00FFFFFFFF800000000000FFFF)] []) 2
      0xFF000000000000000000000012340000 = true := by decide
theorem test_andnotPi64_1 :
    givesV 0x51420100 (block [(0, 0x800000017FFFFFFFFFFFFFFE00000005), (1, 0x800000017FFFFFFF00000003FFFFFFF6)] []) 2
      0x000000000000000000000001FFFFFFF2 = true := by decide
theorem test_andnotPs_1 :
    givesV 0x51820100 (block [(0, 0x800000017FFFFFFFFFFFFFFE00000005), (1, 0x800000017FFFFFFF00000003FFFFFFF6)] []) 2
      0x000000000000000000000001FFFFFFF2 = true := by decide
theorem test_andnotPd_1 :
    givesV 0x51C20100 (block [(0, 0x800000017FFFFFFFFFFFFFFE00000005), (1, 0x800000017FFFFFFF00000003FFFFFFF6)] []) 2
      0x000000000000000000000001FFFFFFF2 = true := by decide
theorem test_orPi32_1 :
    givesV 0x52020100 (block [(0, 0x800000017FFFFFFFFFFFFFFE00000005), (1, 0x800000017FFFFFFF00000003FFFFFFF6)] []) 2
      0x800000017FFFFFFFFFFFFFFFFFFFFFF7 = true := by decide
theorem test_orPi64_1 :
    givesV 0x52420100 (block [(0, 0xFFFF00000F0F0F0F8000000012345678), (1, 0x00FFFF00FFFFFFFF800000000000FFFF)] []) 2
      0xFFFFFF00FFFFFFFF800000001234FFFF = true := by decide
theorem test_orPs_1 :
    givesV 0x52820100 (block [(0, 0x800000017FFFFFFFFFFFFFFE00000005), (1, 0x800000017FFFFFFF00000003FFFFFFF6)] []) 2
      0x800000017FFFFFFFFFFFFFFFFFFFFFF7 = true := by decide
theorem test_orPd_1 :
    givesV 0x52C20100 (block [(0, 0x800000017FFFFFFFFFFFFFFE00000005), (1, 0x800000017FFFFFFF00000003FFFFFFF6)] []) 2
      0x800000017FFFFFFFFFFFFFFFFFFFFFF7 = true := by decide
theorem test_xorPi32_1 :
    givesV 0x53020100 (block [(0, 0x800000017FFFFFFFFFFFFFFE00000005), (1, 0x800000017FFFFFFF00000003FFFFFFF6)] []) 2
      0x0000000000000000FFFFFFFDFFFFFFF3 = true := by decide
theorem test_xorPi64_1 :
    givesV 0x53420100 (block [(0, 0x800000017FFFFFFFFFFFFFFE00000005), (1, 0x800000017FFFFFFF00000003FFFFFFF6)] []) 2
      0x0000000000000000FFFFFFFDFFFFFFF3 = true := by decide
theorem test_xorPs_1 :
    givesV 0x53820100 (block [(0, 0xFFFF00000F0F0F0F8000000012345678), (1, 0x00FFFF00FFFFFFFF800000000000FFFF)] []) 2
      0xFF00FF00F0F0F0F0000000001234A987 = true := by decide
theorem test_xorPd_1 : givesV 0x53C20000 (block [(0, 0xFFFF00000F0F0F0F8000000012345678)] []) 2 0 = true := by decide
theorem test_notPi32_1 :
    givesV 0x54010000 (block [(0, 0x800000017FFFFFFFFFFFFFFE00000005)] []) 1 0x7FFFFFFE8000000000000001FFFFFFFA =
      true := by decide
theorem test_notPi64_1 :
    givesV 0x54410000 (block [(0, 0x800000017FFFFFFFFFFFFFFE00000005)] []) 1 0x7FFFFFFE8000000000000001FFFFFFFA =
      true := by decide
theorem test_notPs_1 :
    givesV 0x54810000 (block [(0, 0x800000017FFFFFFFFFFFFFFE00000005)] []) 1 0x7FFFFFFE8000000000000001FFFFFFFA =
      true := by decide
theorem test_notPd_1 :
    givesV 0x54C10000 (block [(0, 0xFFFF00000F0F0F0F8000000012345678)] []) 1 0x0000FFFFF0F0F0F07FFFFFFFEDCBA987 =
      true := by decide
theorem test_slImmPi32_1 :
    givesV 0x60010000 (block [(0, 0x800000017FFFFFFFFFFFFFFC00000001)] []) 1 0x800000017FFFFFFFFFFFFFFC00000001 =
      true := by decide
theorem test_slImmPi32_2 :
    givesV 0x6001001F (block [(0, 0x800000017FFFFFFFFFFFFFFC00000001)] []) 1 0x80000000800000000000000080000000 =
      true := by decide
theorem test_slImmPi64_1 :
    givesV 0x60410020 (block [(0, 0x0000000180000001FFFFFFFFFFFFFFFF)] []) 1 0x8000000100000000FFFFFFFF00000000 =
      true := by decide
theorem test_srlImmPi32_1 :
    givesV 0x61010001 (block [(0, 0x800000017FFFFFFFFFFFFFFC00000001)] []) 1 0x400000003FFFFFFF7FFFFFFE00000000 =
      true := by decide
theorem test_srlImmPi32_2 :
    givesV 0x6101001F (block [(0, 0x800000017FFFFFFFFFFFFFFC00000001)] []) 1 0x00000001000000000000000100000000 =
      true := by decide
theorem test_srlImmPi64_1 :
    givesV 0x6141003F (block [(0, 0x80000000000000007FFFFFFFFFFFFFFF)] []) 1 0x00000000000000010000000000000000 =
      true := by decide
theorem test_sraImmPi32_1 :
    givesV 0x62010001 (block [(0, 0x800000017FFFFFFFFFFFFFFC00000001)] []) 1 0xC00000003FFFFFFFFFFFFFFE00000000 =
      true := by decide
theorem test_sraImmPi32_2 :
    givesV 0x6201001F (block [(0, 0x800000017FFFFFFFFFFFFFFC00000001)] []) 1 0xFFFFFFFF00000000FFFFFFFF00000000 =
      true := by decide
theorem test_sraImmPi64_1 :
    givesV 0x62410001 (block [(0, 0xFFFFFFFFFFFFFFFCFFFFFFFFFFFFFFFE)] []) 1 0xFFFFFFFFFFFFFFFEFFFFFFFFFFFFFFFF =
      true := by decide
theorem test_sraImmPi64_2 :
    givesV 0x62410021 (block [(0, 0x80000000000000004000000000000000)] []) 1 0xFFFFFFFFC00000000000000020000000 =
      true := by decide
theorem test_slPi32_1 :
    givesV 0x63020100 (block [(0, 0x00000001000000010000000F12345678), (1, 0x0000001F0000001F0000000400000000)] []) 2
      0x8000000080000000000000F012345678 = true := by decide
theorem test_slPi64_1 :
    givesV 0x63420100 (block [(0, 0x00000000000000010000000000000001), (1, 0x000000000000003F000000000000003F)] []) 2
      0x80000000000000008000000000000000 = true := by decide
theorem test_srlPi32_1 :
    givesV 0x64020100 (block [(0, 0x80000000800000008000000080000000), (1, 0x0000001F0000001F0000000100000000)] []) 2
      0x00000001000000014000000080000000 = true := by decide
theorem test_srlPi64_1 :
    givesV 0x64420100 (block [(0, 0xFFFFFFFFFFFFFFFFFFFFFFFFFFFFFFFF), (1, 0x00000000000000010000000000000001)] []) 2
      0x7FFFFFFFFFFFFFFF7FFFFFFFFFFFFFFF = true := by decide
theorem test_sraPi32_1 :
    givesV 0x65020100 (block [(0, 0x8000000080000000FFFFFFF8FFFFFFF8), (1, 0x0000001F0000001F0000000200000000)] []) 2
      0xFFFFFFFFFFFFFFFFFFFFFFFEFFFFFFF8 = true := by decide
theorem test_sraPi64_1 :
    givesV 0x65420100 (block [(0, 0xFFFFFFFFFFFFFFFCFFFFFFFFFFFFFFFE), (1, 0x0000000000000001000000000000003F)] []) 2
      0xFFFFFFFFFFFFFFFEFFFFFFFFFFFFFFFF = true := by decide
theorem test_cmpltPi32_1 :
    givesV 0x70020100 (block [(0, 0xFFFFFFFF000000058000000000000007), (1, 0x00000001000000057FFFFFFFFFFFFFF9)] []) 2
      0xFFFFFFFF00000000FFFFFFFF00000000 = true := by decide
theorem test_cmpltPi64_1 :
    givesV 0x70420100 (block [(0, 0x0000000100000000FFFFFFFFFFFFFFFF), (1, 0x00000002000000000000000000000000)] []) 2
      0xFFFFFFFFFFFFFFFFFFFFFFFFFFFFFFFF = true := by decide
theorem test_cmpltPs_1 :
    givesV 0x70820100 (block [(0, 0x000000007FC000003F800000FF800000), (1, 0x800000007FC00000400000007F800000)] []) 2
      0x0000000000000000FFFFFFFFFFFFFFFF = true := by decide
theorem test_cmpltPd_1 :
    givesV 0x70C20100 (block [(0, 0x0000000000000000BFF0000000000000), (1, 0x00000000000000017FF8000000000000)] []) 2
      0xFFFFFFFFFFFFFFFF0000000000000000 = true := by decide
theorem test_cmplePi32_1 :
    givesV 0x71020100 (block [(0, 0xFFFFFFFF000000058000000000000007), (1, 0x00000001000000057FFFFFFFFFFFFFF9)] []) 2
      0xFFFFFFFFFFFFFFFFFFFFFFFF00000000 = true := by decide
theorem test_cmplePi64_1 :
    givesV 0x71420100 (block [(0, 0xFFFFFFFFFFFFFFFF0000000000000005), (1, 0x00000000000000010000000000000005)] []) 2
      0xFFFFFFFFFFFFFFFFFFFFFFFFFFFFFFFF = true := by decide
theorem test_cmplePs_1 :
    givesV 0x71820100 (block [(0, 0x000000007FC000003F800000FF800000), (1, 0x800000007FC00000400000007F800000)] []) 2
      0xFFFFFFFF00000000FFFFFFFFFFFFFFFF = true := by decide
theorem test_cmplePd_1 :
    givesV 0x71C20100 (block [(0, 0x7FF80000000000018000000000000000), (1, 0x3FF00000000000000000000000000000)] []) 2
      0x0000000000000000FFFFFFFFFFFFFFFF = true := by decide
theorem test_cmpeqPi32_1 :
    givesV 0x72020100 (block [(0, 0xFFFFFFFF000000058000000000000007), (1, 0x00000001000000057FFFFFFFFFFFFFF9)] []) 2
      0x00000000FFFFFFFF0000000000000000 = true := by decide
theorem test_cmpeqPi64_1 :
    givesV 0x72442300 (block [(2, 0x00000008000000080000000700000007), (3, 0x00000008000000070000000700000008)] []) 4
      0 = true := by decide
theorem test_cmpeqPi64_2 :
    givesV 0x72420100 (block [(0, 0x00000008000000080000000700000007), (1, 0x00000008000000070000000700000008)] []) 2
      0 = true := by decide
theorem test_cmpeqPs_1 :
    givesV 0x72820100 (block [(0, 0x00000000800000003F8000007FC00000), (1, 0x8000000000000000BF800000FFC00000)] []) 2
      0xFFFFFFFFFFFFFFFF0000000000000000 = true := by decide
theorem test_cmpeqPs_2 :
    givesV 0x72820100 (block [(0, 0x000000007FC000003F800000FF800000), (1, 0x800000007FC00000400000007F800000)] []) 2
      0xFFFFFFFF000000000000000000000000 = true := by decide
theorem test_cmpeqPd_1 :
    givesV 0x72C20100 (block [(0, 0x7FF80000000000008000000000000000), (1, 0x3FF00000000000000000000000000000)] []) 2
      0x0000000000000000FFFFFFFFFFFFFFFF = true := by decide
theorem test_cmpneqPi32_1 :
    givesV 0x73020100 (block [(0, 0xFFFFFFFF000000058000000000000007), (1, 0x00000001000000057FFFFFFFFFFFFFF9)] []) 2
      0xFFFFFFFF00000000FFFFFFFFFFFFFFFF = true := by decide
theorem test_cmpneqPi64_1 :
    givesV 0x73420100 (block [(0, 0xFFFFFFFFFFFFFFFF0000000000000005), (1, 0x00000000000000010000000000000005)] []) 2
      0xFFFFFFFFFFFFFFFF0000000000000000 = true := by decide
theorem test_cmpneqPs_1 :
    givesV 0x73820100 (block [(0, 0x000000007FC000003F800000FF800000), (1, 0x800000007FC00000400000007F800000)] []) 2
      0x00000000FFFFFFFFFFFFFFFFFFFFFFFF = true := by decide
theorem test_cmpneqPd_1 :
    givesV 0x73C20100 (block [(0, 0x7FF80000000000018000000000000000), (1, 0x3FF00000000000000000000000000000)] []) 2
      0xFFFFFFFFFFFFFFFF0000000000000000 = true := by decide
theorem test_cmpgePi32_1 :
    givesV 0x74020100 (block [(0, 0xFFFFFFFF000000058000000000000007), (1, 0x00000001000000057FFFFFFFFFFFFFF9)] []) 2
      0x00000000FFFFFFFF00000000FFFFFFFF = true := by decide
theorem test_cmpgePi64_1 :
    givesV 0x74420100 (block [(0, 0xFFFFFFFFFFFFFFFF0000000000000005), (1, 0x00000000000000010000000000000005)] []) 2
      0x0000000000000000FFFFFFFFFFFFFFFF = true := by decide
theorem test_cmpgePs_1 :
    givesV 0x74820100 (block [(0, 0x000000007FC000003F800000FF800000), (1, 0x800000007FC00000400000007F800000)] []) 2
      0xFFFFFFFF000000000000000000000000 = true := by decide
theorem test_cmpgePd_1 :
    givesV 0x74C20100 (block [(0, 0x7FF80000000000018000000000000000), (1, 0x3FF00000000000000000000000000000)] []) 2
      0x0000000000000000FFFFFFFFFFFFFFFF = true := by decide
theorem test_cmpgtPi32_1 :
    givesV 0x75020100 (block [(0, 0xFFFFFFFF000000058000000000000007), (1, 0x00000001000000057FFFFFFFFFFFFFF9)] []) 2
      0x000000000000000000000000FFFFFFFF = true := by decide
theorem test_cmpgtPi64_1 :
    givesV 0x75420100 (block [(0, 0x00000005800000008000000000000000), (1, 0x00000005000000010000000000000000)] []) 2
      0xFFFFFFFFFFFFFFFF0000000000000000 = true := by decide
theorem test_cmpgtPs_1 :
    givesV 0x75820100 (block [(0, 0x000000007FC000003F800000FF800000), (1, 0x800000007FC00000400000007F800000)] []) 2
      0 = true := by decide
theorem test_cmpgtPd_1 :
    givesV 0x75C20100 (block [(0, 0x7FF80000000000018000000000000000), (1, 0x3FF00000000000000000000000000000)] []) 2
      0 = true := by decide
theorem test_andCmpPi32_1 :
    givesV 0x78020100 (block [(0, 0xFFFFFFFFFFFFFFFF0000000000000000), (1, 0xFFFFFFFF00000000FFFFFFFF00000000)] []) 2
      0xFFFFFFFF000000000000000000000000 = true := by decide
theorem test_andCmpPi32_2 :
    givesV 0x78020100 (block [(0, 0xFFFFFFFFFFFFFFFF0000000000000000), (1, 0xFFFFFFFF00000000FFFFFFFF00000000)] []) 2
      0xFFFFFFFF000000000000000000000000 = true := by decide
theorem test_andCmpPi64_1 :
    givesV 0x78420100 (block [(0, 0xFFFFFFFFFFFFFFFF0000000000000000), (1, 0xFFFFFFFFFFFFFFFFFFFFFFFFFFFFFFFF)] []) 2
      0xFFFFFFFFFFFFFFFF0000000000000000 = true := by decide
theorem test_andCmpPs_1 :
    givesV 0x78820100 (block [(0, 0xFFFFFFFFFFFFFFFF0000000000000000), (1, 0xFFFFFFFF00000000FFFFFFFF00000000)] []) 2
      0xFFFFFFFF000000000000000000000000 = true := by decide
theorem test_andCmpPd_1 :
    givesV 0x78C20100 (block [(0, 0xFFFFFFFFFFFFFFFFFFFFFFFFFFFFFFFF), (1, 0x0000000000000000FFFFFFFFFFFFFFFF)] []) 2
      0x0000000000000000FFFFFFFFFFFFFFFF = true := by decide
theorem test_orCmpPi32_1 :
    givesV 0x79053400 (block [(3, 0x0000000000000000FFFFFFFFFFFFFFFF), (4, 0x00000000FFFFFFFF00000000FFFFFFFF)] []) 5
      0x00000000FFFFFFFFFFFFFFFFFFFFFFFF = true := by decide
theorem test_orCmpPi32_2 :
    givesV 0x79020100 (block [(0, 0xFFFFFFFFFFFFFFFF0000000000000000), (1, 0xFFFFFFFF00000000FFFFFFFF00000000)] []) 2
      0xFFFFFFFFFFFFFFFFFFFFFFFF00000000 = true := by decide
theorem test_orCmpPi64_1 :
    givesV 0x79420100 (block [(0, 0xFFFFFFFFFFFFFFFF0000000000000000), (1, 0xFFFFFFFFFFFFFFFFFFFFFFFFFFFFFFFF)] []) 2
      0xFFFFFFFFFFFFFFFFFFFFFFFFFFFFFFFF = true := by decide
theorem test_orCmpPs_1 :
    givesV 0x79820100 (block [(0, 0xFFFFFFFFFFFFFFFF0000000000000000), (1, 0xFFFFFFFF00000000FFFFFFFF00000000)] []) 2
      0xFFFFFFFFFFFFFFFFFFFFFFFF00000000 = true := by decide
theorem test_orCmpPd_1 :
    givesV 0x79C20100 (block [(0, 0xFFFFFFFFFFFFFFFF0000000000000000), (1, 0xFFFFFFFFFFFFFFFFFFFFFFFFFFFFFFFF)] []) 2
      0xFFFFFFFFFFFFFFFFFFFFFFFFFFFFFFFF = true := by decide
theorem test_xorCmpPi32_1 :
    givesV 0x7A070100 (block [(0, 0xFFFFFFFFFFFFFFFF0000000000000000), (1, 0xFFFFFFFF00000000FFFFFFFF00000000)] []) 7
      0x00000000FFFFFFFFFFFFFFFF00000000 = true := by decide
theorem test_xorCmpPi32_2 :
    givesV 0x7A020100 (block [(0, 0xFFFFFFFFFFFFFFFF0000000000000000), (1, 0xFFFFFFFF00000000FFFFFFFF00000000)] []) 2
      0x00000000FFFFFFFFFFFFFFFF00000000 = true := by decide
theorem test_xorCmpPi64_1 :
    givesV 0x7A420100 (block [(0, 0xFFFFFFFFFFFFFFFF0000000000000000), (1, 0xFFFFFFFFFFFFFFFFFFFFFFFFFFFFFFFF)] []) 2
      0x0000000000000000FFFFFFFFFFFFFFFF = true := by decide
theorem test_xorCmpPs_1 :
    givesV 0x7A820100 (block [(0, 0xFFFFFFFFFFFFFFFF0000000000000000), (1, 0xFFFFFFFF00000000FFFFFFFF00000000)] []) 2
      0x00000000FFFFFFFFFFFFFFFF00000000 = true := by decide
theorem test_xorCmpPd_1 :
    givesV 0x7AC20100 (block [(0, 0xFFFFFFFFFFFFFFFF0000000000000000), (1, 0xFFFFFFFFFFFFFFFFFFFFFFFFFFFFFFFF)] []) 2
      0x0000000000000000FFFFFFFFFFFFFFFF = true := by decide
theorem test_cmpeqCmpPi32_1 :
    givesV 0x7B090100 (block [(0, 0xFFFFFFFFFFFFFFFF0000000000000000), (1, 0xFFFFFFFF00000000FFFFFFFF00000000)] []) 9
      0xFFFFFFFF0000000000000000FFFFFFFF = true := by decide
theorem test_cmpeqCmpPi32_2 :
    givesV 0x7B020100 (block [(0, 0xFFFFFFFFFFFFFFFF0000000000000000), (1, 0xFFFFFFFF00000000FFFFFFFF00000000)] []) 2
      0xFFFFFFFF0000000000000000FFFFFFFF = true := by decide
theorem test_cmpeqCmpPi64_1 :
    givesV 0x7B420100 (block [(0, 0xFFFFFFFFFFFFFFFF0000000000000000), (1, 0)] []) 2
      0x0000000000000000FFFFFFFFFFFFFFFF = true := by decide
theorem test_cmpeqCmpPs_1 :
    givesV 0x7B820100 (block [(0, 0xFFFFFFFFFFFFFFFF0000000000000000), (1, 0xFFFFFFFF00000000FFFFFFFF00000000)] []) 2
      0xFFFFFFFF0000000000000000FFFFFFFF = true := by decide
theorem test_cmpeqCmpPd_1 :
    givesV 0x7BC20100 (block [(0, 0xFFFFFFFFFFFFFFFF0000000000000000), (1, 0xFFFFFFFFFFFFFFFFFFFFFFFFFFFFFFFF)] []) 2
      0xFFFFFFFFFFFFFFFF0000000000000000 = true := by decide
theorem test_notCmpPi32_1 :
    givesV 0x7C030000 (block [(0, 0xFFFFFFFFFFFFFFFF0000000000000000)] []) 3 0x0000000000000000FFFFFFFFFFFFFFFF =
      true := by decide
theorem test_notCmpPi32_2 :
    givesV 0x7C087000 (block [(7, 0x00000000FFFFFFFFFFFFFFFF00000000)] []) 8 0xFFFFFFFF0000000000000000FFFFFFFF =
      true := by decide
theorem test_notCmpPi64_1 :
    givesV 0x7C410000 (block [(0, 0xFFFFFFFFFFFFFFFF0000000000000000)] []) 1 0x0000000000000000FFFFFFFFFFFFFFFF =
      true := by decide
theorem test_notCmpPs_1 :
    givesV 0x7C810000 (block [(0, 0xFFFFFFFFFFFFFFFF0000000000000000)] []) 1 0x0000000000000000FFFFFFFFFFFFFFFF =
      true := by decide
theorem test_notCmpPd_1 :
    givesV 0x7CC10000 (block [(0, 0xFFFFFFFFFFFFFFFF0000000000000000)] []) 1 0x0000000000000000FFFFFFFFFFFFFFFF =
      true := by decide
theorem test_cvtcmpPi32Pi64_1 :
    givesV 0x7D110000 (block [(0, 0xFFFFFFFF0000000000000000FFFFFFFF)] []) 1 0x0000000000000000FFFFFFFFFFFFFFFF =
      true := by decide
theorem test_cvtcmpPi32Ps_1 :
    givesV 0x7D210000 (block [(0, 0xFFFFFFFF0000000000000000FFFFFFFF)] []) 1 0xFFFFFFFF0000000000000000FFFFFFFF =
      true := by decide
theorem test_cvtcmpPi32Pd_1 :
    givesV 0x7D310000 (block [(0, 0xFFFFFFFF00000000FFFFFFFF00000000)] []) 1 0xFFFFFFFFFFFFFFFF0000000000000000 =
      true := by decide
theorem test_cvtcmpPi64Pi32_1 :
    givesV 0x7D410000 (block [(0, 0xFFFFFFFFFFFFFFFF0000000000000000)] []) 1 0x0000000000000000FFFFFFFF00000000 =
      true := by decide
theorem test_cvtcmpPi64Ps_1 :
    givesV 0x7D610000 (block [(0, 0xFFFFFFFFFFFFFFFF0000000000000000)] []) 1 0x0000000000000000FFFFFFFF00000000 =
      true := by decide
theorem test_cvtcmpPi64Pd_1 :
    givesV 0x7D710000 (block [(0, 0xFFFFFFFFFFFFFFFF0000000000000000)] []) 1 0xFFFFFFFFFFFFFFFF0000000000000000 =
      true := by decide
theorem test_cvtcmpPsPi32_1 :
    givesV 0x7D810000 (block [(0, 0xFFFFFFFF00000000FFFFFFFF00000000)] []) 1 0xFFFFFFFF00000000FFFFFFFF00000000 =
      true := by decide
theorem test_cvtcmpPsPi64_1 :
    givesV 0x7D910000 (block [(0, 0xFFFFFFFF00000000FFFFFFFF00000000)] []) 1 0xFFFFFFFFFFFFFFFF0000000000000000 =
      true := by decide
theorem test_cvtcmpPsPd_1 :
    givesV 0x7DB10000 (block [(0, 0x0000000000000000FFFFFFFF00000000)] []) 1 0xFFFFFFFFFFFFFFFF0000000000000000 =
      true := by decide
theorem test_cvtcmpPdPi32_1 :
    givesV 0x7DC10000 (block [(0, 0xFFFFFFFFFFFFFFFF0000000000000000)] []) 1 0x0000000000000000FFFFFFFF00000000 =
      true := by decide
theorem test_cvtcmpPdPi64_1 :
    givesV 0x7DD10000 (block [(0, 0x0000000000000000FFFFFFFFFFFFFFFF)] []) 1 0x0000000000000000FFFFFFFFFFFFFFFF =
      true := by decide
theorem test_cvtcmpPdPs_1 :
    givesV 0x7DE10000 (block [(0, 0xFFFFFFFFFFFFFFFFFFFFFFFFFFFFFFFF)] []) 1 0x0000000000000000FFFFFFFFFFFFFFFF =
      true := by decide
theorem test_andnotCmpPi32_1 :
    givesV 0x7E020100 (block [(0, 0xFFFFFFFFFFFFFFFF0000000000000000), (1, 0xFFFFFFFF00000000FFFFFFFF00000000)] []) 2
      0x0000000000000000FFFFFFFF00000000 = true := by decide
theorem test_andnotCmpPi64_1 :
    givesV 0x7E420100 (block [(0, 0xFFFFFFFFFFFFFFFF0000000000000000), (1, 0xFFFFFFFFFFFFFFFFFFFFFFFFFFFFFFFF)] []) 2
      0x0000000000000000FFFFFFFFFFFFFFFF = true := by decide
theorem test_andnotCmpPs_1 :
    givesV 0x7E820100 (block [(0, 0xFFFFFFFFFFFFFFFF0000000000000000), (1, 0xFFFFFFFF00000000FFFFFFFF00000000)] []) 2
      0x0000000000000000FFFFFFFF00000000 = true := by decide
theorem test_andnotCmpPd_1 :
    givesV 0x7EC20100 (block [(0, 0xFFFFFFFFFFFFFFFF0000000000000000), (1, 0xFFFFFFFFFFFFFFFFFFFFFFFFFFFFFFFF)] []) 2
      0x0000000000000000FFFFFFFFFFFFFFFF = true := by decide
theorem test_choosePi32_1 :
    givesV 0x80030120 (block [(0, 0xFFFFFFFF0000000000000000FFFFFFFF), (1, 0x11111111222222223333333344444444), (2,
      0xAAAAAAAABBBBBBBBCCCCCCCCDDDDDDDD)] []) 3 0x11111111BBBBBBBBCCCCCCCC44444444 = true := by decide
theorem test_choosePi64_1 :
    givesV 0x80430120 (block [(0, 0x0000000000000000FFFFFFFFFFFFFFFF), (1, 0x11111111222222223333333344444444), (2,
      0xAAAAAAAABBBBBBBBCCCCCCCCDDDDDDDD)] []) 3 0xAAAAAAAABBBBBBBB3333333344444444 = true := by decide
theorem test_choosePs_1 :
    givesV 0x80830120 (block [(0, 0xFFFFFFFFFFFFFFFFFFFFFFFF00000000), (1, 0x11111111111111111111111144444444), (2,
      0xAAAAAAAAAAAAAAAAAAAAAAAADDDDDDDD)] []) 3 0x111111111111111111111111DDDDDDDD = true := by decide
theorem test_choosePd_1 :
    givesV 0x80C30120 (block [(0, 0xFFFFFFFFFFFFFFFFFFFFFFFFFFFFFFFF), (1, 0x33333333444444443333333344444444), (2,
      0xCCCCCCCCDDDDDDDDCCCCCCCCDDDDDDDD)] []) 3 0x33333333444444443333333344444444 = true := by decide
theorem test_chooseElseZeroPi32_1 :
    givesV 0x81030100 (block [(0, 0xFFFFFFFF0000000000000000FFFFFFFF), (1, 0x11111111222222223333333344444444)] []) 3
      0x11111111000000000000000044444444 = true := by decide
theorem test_chooseElseZeroPi64_1 :
    givesV 0x81420100 (block [(0, 0xFFFFFFFFFFFFFFFF0000000000000000), (1, 0x800000017FFFFFFF00000003FFFFFFF6)] []) 2
      0x800000017FFFFFFF0000000000000000 = true := by decide
theorem test_chooseElseZeroPs_1 :
    givesV 0x81830100 (block [(0, 0x0000000000000000FFFFFFFF00000000), (1, 0x3F80000040000000C04000007FC00000)] []) 3
      0x0000000000000000C040000000000000 = true := by decide
theorem test_chooseElseZeroPd_1 :
    givesV 0x81C30100 (block [(0, 0xFFFFFFFFFFFFFFFFFFFFFFFFFFFFFFFF), (1, 0x11111111222222221111111122222222)] []) 3
      0x11111111222222221111111122222222 = true := by decide
theorem test_minPi32_1 :
    givesV 0x90020100 (block [(0, 0xFFFFFFFF000000058000000000000007), (1, 0x00000001000000057FFFFFFFFFFFFFF9)] []) 2
      0xFFFFFFFF0000000580000000FFFFFFF9 = true := by decide
theorem test_minPi64_1 :
    givesV 0x90420100 (block [(0, 0x0000000100000000FFFFFFFFFFFFFFFF), (1, 0x00000000FFFFFFFF0000000000000000)] []) 2
      0x00000000FFFFFFFFFFFFFFFFFFFFFFFF = true := by decide
theorem test_maxPi32_1 :
    givesV 0x91020100 (block [(0, 0xFFFFFFFF000000058000000000000007), (1, 0x00000001000000057FFFFFFFFFFFFFF9)] []) 2
      0x00000001000000057FFFFFFF00000007 = true := by decide
theorem test_maxPi64_1 :
    givesV 0x91420100 (block [(0, 0x0000000100000000FFFFFFFFFFFFFFFF), (1, 0x00000000FFFFFFFF0000000000000000)] []) 2
      0x00000001000000000000000000000000 = true := by decide
theorem test_minFastPs_1 :
    givesV 0x92820100 (block [(0, 0x3F800000FF800000000000003F800000), (1, 0x400000004040000040A0000040000000)] []) 2
      0x3F800000FF800000000000003F800000 = true := by decide
theorem test_minFastPd_1 :
    givesV 0x92C20100 (block [(0, 0x7FF0000000000000C004000000000000), (1, 0x7E37E43C8800759CC002000000000000)] []) 2
      0x7E37E43C8800759CC004000000000000 = true := by decide +kernel
theorem test_maxFastPs_1 :
    givesV 0x93820100 (block [(0, 0x80000000800000008000000080000000), (1, 0x800000008000000080000000BF800000)] []) 2
      0x80000000800000008000000080000000 = true := by decide
theorem test_maxFastPd_1 :
    givesV 0x93C20100 (block [(0, 0x7FF00000000000007FF0000000000000), (1, 0x7E37E43C8800759C7E37E43C8800759C)] []) 2
      0x7FF00000000000007FF0000000000000 = true := by decide +kernel
theorem test_constrainPi32_1 :
    givesV 0x94030120 (block [(0, 0xFFFFFFF6FFFFFFF6FFFFFFF6FFFFFFF6), (1, 0x0000000A0000000A0000000A0000000A), (2,
      0xFFFFFFF5FFFFFFF60000000300000063)] []) 3 0xFFFFFFF6FFFFFFF6000000030000000A = true := by decide
theorem test_constrainPi32_2 :
    givesV 0x94030120 (block [(0, 0x00000005000000050000000500000005), (1, 0x00000001000000010000000100000001), (2,
      0x000000000000000300000009FFFFFFF7)] []) 3 0x00000001000000010000000100000001 = true := by decide
theorem test_constrainPi64_1 :
    givesV 0x94430120 (block [(0, 0), (1, 0x00000100000000000000010000000000), (2,
      0xFFFFFFFFFFFFFFFF0000020000000000)] []) 3 0x00000000000000000000010000000000 = true := by decide
theorem test_constrainPs_1 :
    givesV 0x94830120 (block [(0, 0xBF800000BF800000BF800000BF800000), (1, 0x3F8000003F8000003F8000003F800000), (2,
      0xC00000003F0000007F800000C0000000)] []) 3 0xBF8000003F0000003F800000BF800000 = true := by decide
theorem test_constrainPd_1 :
    givesV 0x94C30120 (block [(0, 0x3FD00000000000003FD0000000000000), (1, 0x3FE80000000000003FE8000000000000), (2,
      0x3FE00000000000008000000000000000)] []) 3 0x3FE00000000000003FD0000000000000 = true := by decide +kernel
theorem test_removeSignedZeroPs_1 :
    givesV 0x95810000 (block [(0, 0x8000000000000000FFC0000180000001)] []) 1 0x0000000000000000FFC0000180000001 =
      true := by decide
theorem test_removeSignedZeroPs_2 :
    givesV 0x95810000 (block [(0, 0x8000000000000000FFC0000180000001)] []) 1 0x0000000000000000FFC0000180000001 =
      true := by decide
theorem test_removeSignedZeroPd_1 :
    givesV 0x95C10000 (block [(0, 0x8000000000000000BFF0000000000000)] []) 1 0x0000000000000000BFF0000000000000 =
      true := by decide
theorem test_removeSignedZeroPd_2 :
    givesV 0x95C10000 (block [(0, 0x8000000000000000BFF0000000000000)] []) 1 0x0000000000000000BFF0000000000000 =
      true := by decide
theorem test_cvtPi32Pi64_1 :
    givesV 0xA0110000 (block [(0, 0x0000007B000001C8FFFFFFFE7FFFFFFF)] []) 1 0xFFFFFFFFFFFFFFFE000000007FFFFFFF =
      true := by decide
theorem test_cvtPi32Ps_1 :
    givesV 0xA0210000 (block [(0, 0x01000000FF0000000001E240FFFFFFFF)] []) 1 0x4B800000CB80000047F12000BF800000 =
      true := by decide
theorem test_cvtPi32Ps_2 :
    givesV 0xA0210000 (block [(0, 0x010000037FFFFFFF00000001FEFFFFFF)] []) 1 0x4B8000024F0000003F800000CB800000 =
      true := by decide
theorem test_cvtPi32Pd_1 :
    givesV 0xA0310000 (block [(0, 0x0000000900000009FFFFFFFE7FFFFFFF)] []) 1 0xC00000000000000041DFFFFFFFC00000 =
      true := by decide +kernel
theorem test_cvtPi64Pi32_1 :
    givesV 0xA0410000 (block [(0, 0x0000000180000005FFFFFFFFFFFFFFFE)] []) 1 0x000000000000000080000005FFFFFFFE =
      true := by decide
theorem test_cvtPi64Ps_1 :
    givesV 0xA0610000 (block [(0, 0x0020000000000001FFFFFFFFFFFFFFFD)] []) 1 0x00000000000000005A000000C0400000 =
      true := by decide
theorem test_cvtPi64Ps_2 :
    givesV 0xA0610000 (block [(0, 0x00000100000100017FFFFFFFFFFFFFFF)] []) 1 0x0000000000000000538000015F000000 =
      true := by decide
theorem test_cvtPi64Pd_1 :
    givesV 0xA0710000 (block [(0, 0x00200000000000018000000000000000)] []) 1 0x4340000000000000C3E0000000000000 =
      true := by decide +kernel
theorem test_cvtPsPi32_1 :
    givesV 0xA0810000 (block [(0, 0x40200000402000004020000040200000)] []) 1 0x00000002000000020000000200000002 =
      true := by decide
theorem test_cvtPsPi32_2 :
    givesV 0xA0810000 (block [(0, 0x3F0000003FC0000040600000BF000000)] []) 1 0x00000000000000020000000400000000 =
      true := by decide
theorem test_cvtPsPi64_1 :
    givesV 0xA0910000 (block [(0, 0x7FC000007F800000C020000040600000)] []) 1 0xFFFFFFFFFFFFFFFE0000000000000004 =
      true := by decide
theorem test_cvtPsPd_1 :
    givesV 0xA0B10000 (block [(0, 0x411000004110000000000001C0200000)] []) 1 0x36A0000000000000C004000000000000 =
      true := by decide +kernel
theorem test_cvtPsPd_2 :
    givesV 0xA0B10000 (block [(0, 0x0000000000000000FF80000080000000)] []) 1 0xFFF00000000000008000000000000000 =
      true := by decide
theorem test_cvtPdPi32_1 :
    givesV 0xA0C10000 (block [(0, 0x4004000000000000400C000000000000)] []) 1 0x00000000000000000000000200000004 =
      true := by decide +kernel
theorem test_cvtPdPi32_2 :
    givesV 0xA0C10000 (block [(0, 0xC1E0000000100000C1E0000000100000)] []) 1 0x00000000000000008000000080000000 =
      true := by decide +kernel
theorem test_cvtPdPi64_1 :
    givesV 0xA0D10000 (block [(0, 0xC0040000000000004330000000000001)] []) 1 0xFFFFFFFFFFFFFFFE0010000000000001 =
      true := by decide +kernel
theorem test_cvtPdPs_1 :
    givesV 0xA0E10000 (block [(0, 0x3FB999999999999A3FF0000010000000)] []) 1 0x00000000000000003DCCCCCD3F800000 =
      true := by decide +kernel
theorem test_cvtPdPs_2 :
    givesV 0xA0E10000 (block [(0, 0x36A0000000000000B690000000000000)] []) 1 0x00000000000000000000000180000000 =
      true := by decide +kernel
theorem test_cvttPsPi32_1 :
    givesV 0xA1810000 (block [(0, 0x4039999AC039999A3F000000BF000000)] []) 1 0x00000002FFFFFFFE0000000000000000 =
      true := by decide
theorem test_cvttPsPi32_2 :
    givesV 0xA1810000 (block [(0, 0x4EFFFFFF4EFFFFFF4EFFFFFF00000001)] []) 1 0x7FFFFF807FFFFF807FFFFF8000000000 =
      true := by decide
theorem test_cvttPsPi64_1 :
    givesV 0xA1910000 (block [(0, 0x00000000000000005380000053800000)] []) 1 0x00000100000000000000010000000000 =
      true := by decide
theorem test_cvttPdPi32_1 :
    givesV 0xA1C10000 (block [(0, 0x41DFFFFFFFE0000041DFFFFFFFE00000)] []) 1 0x00000000000000007FFFFFFF7FFFFFFF =
      true := by decide +kernel
theorem test_cvttPdPi64_1 :
    givesV 0xA1D10000 (block [(0, 0xC3E0000000000000C3E0000000000000)] []) 1 0x80000000000000008000000000000000 =
      true := by decide +kernel
theorem test_cvtfPsPi32_1 :
    givesV 0xA2810000 (block [(0, 0x4039999AC0066666BF00000080000000)] []) 1 0x00000002FFFFFFFDFFFFFFFF00000000 =
      true := by decide
theorem test_cvtfPsPi64_1 :
    givesV 0xA2910000 (block [(0, 0x0000000000000000BE80000040F80000)] []) 1 0xFFFFFFFFFFFFFFFF0000000000000007 =
      true := by decide
theorem test_cvtfPdPi32_1 :
    givesV 0xA2C10000 (block [(0, 0xBFE0000000000000BFE0000000000000)] []) 1 0x0000000000000000FFFFFFFFFFFFFFFF =
      true := by decide +kernel
theorem test_cvtfPdPi64_1 :
    givesV 0xA2D10000 (block [(0, 0xBFF8000000000000BFF8000000000000)] []) 1 0xFFFFFFFFFFFFFFFEFFFFFFFFFFFFFFFE =
      true := by decide +kernel

theorem test_halt_1 : (match step ((block [] []).withFetchWord 32 0x01000000) with
    | .next t => decide (t.rs = .halted) && decide (t.pc = 0x44) | _ => false) = true := by decide

/-- R265 with zeros of opposite sign that are not a pair compared: lo = +0, hi = -0, x > 0 in lane 3, lo = 1, hi = -0,
x = +0 in the others; hi in every lane. -/
theorem test_constrain_unpaired_zeros : givesV 0x94830120
    (block [(0, 0x000000003F8000003F8000003F800000), (1, 0x80000000800000008000000080000000),
      (2, 0x3F800000000000000000000000000000)] []) 3 0x80000000800000008000000080000000 = true := by decide

/-! ### Loads, stores and faults (95_test_vectors.md section 3) -/

/-- `block` with the byte `j` at address `j` for 0x00 .. 0x2F and `F0` .. `FF` at 0xFF0 .. 0xFFF. -/
def memBlock (vs : List (VReg × Vec)) (ss : List (SReg × Scalar)) : State :=
  { block vs ss with
    dmem := (List.range 0x30).map (fun a => (a, BitVec.ofNat 8 a)) ++
      (List.range 16).map fun k => (0xFF0 + k, BitVec.ofNat 8 (0xF0 + k)) }

/-- Whether the step leaves the given bytes in data memory from address `a`. -/
def leavesBytes (w : Word) (s : State) (a : Nat) (bs : List Byte) : Bool :=
  stepOk w s fun t => (List.range bs.length).all fun k => decide (readCell t.dmem (a + k) = bs[k]?)

/-- Whether the step from `pc` faults with `code` and `info`, and every register keeps its value. -/
def faults (w : Word) (s : State) (code : Nat) (info : Word) : Bool :=
  match step (s.withFetchWord 32 w.toNat) with
  | .next t => decide (t.rs = .faulted) && decide (t.cause.toNat = code) && decide (t.fpc = s.pc) &&
      decide (t.finfo = info) && decide (t.pc = s.pc) && decide (t.v = s.v) && decide (t.dmem = s.dmem)
  | _ => false

theorem test_loadUnalignedPi32_1 : givesV 0x17010000 (memBlock [] [(0, 0xFFFFFFFF00000010)]) 1
    0x1F1E1D1C1B1A19181716151413121110 = true := by decide
theorem test_loadUnalignedPi64_1 : givesV 0x1741007F (memBlock [] [(0, 0x00000000FFFFFF91)]) 1
    0x1F1E1D1C1B1A19181716151413121110 = true := by decide
theorem test_loadUnalignedPs_1 : givesV 0x17810003 (memBlock [] [(0, 0x10)]) 1
    0x2221201F1E1D1C1B1A19181716151413 = true := by decide
theorem test_loadUnalignedPd_1 : givesV 0x17C100F0 (memBlock [] [(0, 0x20)]) 1
    0x1F1E1D1C1B1A19181716151413121110 = true := by decide
theorem test_storeUnalignedPi32_1 : leavesBytes 0x18000205
    (memBlock [(2, 0xAFAEADACABAAA9A8A7A6A5A4A3A2A1A0)] [(0, 0x10)]) 0x14
    [0x14, 0xA0, 0xA1, 0xA2, 0xA3, 0xA4, 0xA5, 0xA6, 0xA7, 0xA8, 0xA9, 0xAA, 0xAB, 0xAC, 0xAD, 0xAE, 0xAF, 0x25]
    = true := by decide
theorem test_storeUnalignedPi64_1 : leavesBytes 0x184002F0
    (memBlock [(2, 0xAFAEADACABAAA9A8A7A6A5A4A3A2A1A0)] [(0, 0x15)]) 4
    [0x04, 0xA0, 0xA1, 0xA2, 0xA3, 0xA4, 0xA5, 0xA6, 0xA7, 0xA8, 0xA9, 0xAA, 0xAB, 0xAC, 0xAD, 0xAE, 0xAF, 0x15]
    = true := by decide
theorem test_storeUnalignedPs_1 : leavesBytes 0x18800200
    (memBlock [(2, 0xAFAEADACABAAA9A8A7A6A5A4A3A2A1A0)] [(0, 0xFF0)]) 0xFF0
    [0xA0, 0xA1, 0xA2, 0xA3, 0xA4, 0xA5, 0xA6, 0xA7, 0xA8, 0xA9, 0xAA, 0xAB, 0xAC, 0xAD, 0xAE, 0xAF] = true := by decide
theorem test_storeUnalignedPd_1 : leavesBytes 0x18C00200
    (memBlock [(2, 0xAFAEADACABAAA9A8A7A6A5A4A3A2A1A0)] [(0, 0x100)]) 0x100
    [0xA0, 0xA1, 0xA2, 0xA3, 0xA4, 0xA5, 0xA6, 0xA7, 0xA8, 0xA9, 0xAA, 0xAB, 0xAC, 0xAD, 0xAE, 0xAF] = true := by decide
theorem test_load_last_bytes : givesV 0x17010000 (memBlock [] [(0, 0xFF0)]) 1
    0xFFFEFDFCFBFAF9F8F7F6F5F4F3F2F1F0 = true := by decide
theorem test_load_past_end : faults 0x17010001 (memBlock [(1, 1)] [(0, 0xFF0)]) 2 0xFF1 = true := by decide
theorem test_load_wraps : faults 0x170100FF (memBlock [(1, 1)] []) 2 0xFFFFFFFF = true := by decide
theorem test_store_past_end : faults 0x18800201 (memBlock [(2, 0xA0)] [(0, 0xFF0)]) 2 0xFF1 = true := by decide
theorem test_fetch_past_end : faults 0x01000000 { block [] [] with pc := 0x100 } 4 0x100 = true := by decide
theorem test_fetch_no_wrap : faults 0x01000000 { block [] [] with pc := 0xFFFFFFFC } 4 0xFFFFFFFC = true := by decide
theorem test_fetch_misaligned : faults 0x01000000 { block [] [] with pc := 0x42 } 3 0x42 = true := by decide
theorem test_fetch_misaligned_first : faults 0x01000000 { block [] [] with pc := 0x102 } 3 0x102 = true := by decide
theorem test_illegal_word : faults 0x00000000 (block [] []) 1 0 = true := by decide
theorem test_illegal_before_access : faults 0x17011105 (block [] [(1, 0xFFFFFFF0)]) 1 0x17011105 = true := by decide
theorem test_access_fault : faults 0x17011005 (block [] [(1, 0xFFFFFFF0)]) 2 0xFFFFFFF5 = true := by decide

/-! ### The machine after reset, and the host port (10_state.md R26, R31, R325) -/

theorem test_reset_runs_placed_halt : (match step (State.reset.withFetchWord 32 0x01000000) with
    | .next t => decide (t.rs = .halted) && decide (t.pc = 4) | _ => false) = true := by decide
theorem test_reset_idles : (match step State.reset with
    | .next t => decide (t.rs = .halted) && decide (t.pc = 0) | _ => false) = true := by decide
theorem test_status_faulted : statusWord { block [] [] with rs := .faulted } = 0x6 := by decide
theorem test_start_ignored_while_faulted : (match hostMove .start { block [] [] with rs := .faulted } with
    | .next t => decide (t.rs = .faulted) | _ => false) = true := by decide

/-! ### Witnesses: the hypotheses of each obligation can be met -/

/-- `block` with the words of `halt` and `add_pi32 v2, v0, v1` at 0xFC and 0x40. -/
def loaded : State :=
  { block [] [] with
    imem := [(0x40, 0x00), (0x41, 0x01), (0x42, 0x02), (0x43, 0x40), (0xFC, 0), (0xFD, 0), (0xFE, 0), (0xFF, 1)] }

theorem test_witness_DecodeEncodeRoundTrip : (Instr.slImmPi64 15 0 63).WellFormed := by decide
theorem test_witness_LegalWordsAreExactlyTheEncodings : decode 0x300100FF = .ok (.shufflePi32 1 0 255) := by decide
theorem test_witness_StepRunsTheDecodedInstruction : loaded.rs = .running ∧ loaded.pc.toNat % 4 = 0 ∧
    loaded.pc.toNat + 3 < loaded.params.imemSize ∧ decode (fetchWord loaded) = .ok (.addPi32 2 0 1) ∧
    readCell loaded.imem loaded.pc.toNat = some 0x00 ∧ readCell loaded.imem (loaded.pc.toNat + 1) = some 0x01 ∧
    readCell loaded.imem (loaded.pc.toNat + 2) = some 0x02 ∧ readCell loaded.imem (loaded.pc.toNat + 3) = some 0x40 := by
  decide
theorem test_witness_StepRunsTheDecodedInstruction_last_word : ({ loaded with pc := 0xFC } : State).rs = .running ∧
    0xFC % 4 = 0 ∧ 0xFC + 3 < loaded.params.imemSize ∧ decode (fetchWord { loaded with pc := 0xFC }) = .ok .halt := by
  decide
theorem test_witness_StepFaultsInOrderOfPriority_misaligned : ({ loaded with pc := 0x102 } : State).rs = .running ∧
    ({ loaded with pc := 0x102 } : State).pc.toNat % 4 ≠ 0 := by decide
theorem test_witness_StepFaultsInOrderOfPriority_range : ({ loaded with pc := 0x100 } : State).rs = .running ∧
    ({ loaded with pc := 0x100 } : State).pc.toNat % 4 = 0 ∧
    loaded.params.imemSize ≤ ({ loaded with pc := 0x100 } : State).pc.toNat + 3 := by decide
theorem test_witness_StepFaultsInOrderOfPriority_illegal :
    let s := { block [] [] with imem := [(0x40, 0), (0x41, 0), (0x42, 0), (0x43, 0)] }
    s.rs = .running ∧ s.pc.toNat % 4 = 0 ∧ s.pc.toNat + 3 < s.params.imemSize ∧
      decode (fetchWord s) = .error .opcode := by decide
theorem test_witness_StepFaultsInOrderOfPriority_access :
    let s := { block [] [(1, 0xFF0)] with imem := [(0x40, 0x01), (0x41, 0x10), (0x42, 0x01), (0x43, 0x17)] }
    s.rs = .running ∧ s.pc.toNat % 4 = 0 ∧ s.pc.toNat + 3 < s.params.imemSize ∧
      decode (fetchWord s) = .ok (.loadUnalignedPi32 1 1 1) ∧
      ∃ k < 16, s.params.memSize ≤ ((effectiveAddress (readS s 1) 1).toNat + k) % 2 ^ 32 := by decide
theorem test_witness_NothingStepsUnlessRunning : ({ loaded with rs := .faulted } : State).rs ≠ .running := by decide
theorem test_witness_StepCompletesOrFaults : loaded.rs = .running := by decide
theorem test_witness_EveryRunEnds : loaded.rs = .running ∧ loaded.pc.toNat < loaded.params.imemSize ∧
    loaded.params.imemSize < 2 ^ 32 := by decide
theorem loaded_inv : loaded.Inv where
  dataForm := by decide
  instrForm := by decide
  dataBelow := by intro c h; cases h
  instrBelow := by unfold Memory.Below; decide
  legal := by decide
  noFault := by decide
  oneFault := by decide
  fetchInfo := by decide
  storesMade := by intro ea h; cases h
theorem test_witness_EveryStepKeepsTheInvariant : loaded.Inv ∧
    ∃ t, step loaded = .next t := ⟨loaded_inv, _, rfl⟩
theorem test_witness_NoStepWritesInstructionMemory : ∃ t, step loaded = .next t := ⟨_, rfl⟩
theorem test_witness_LoadReadsSixteenBytes : let s := memBlock [] [(0, 0xFF0)]
    (∀ k < 16, ((effectiveAddress (readS s 0) 0).toNat + k) % 2 ^ 32 < s.params.memSize) ∧
    ∀ k < 16, (readCell s.dmem (((effectiveAddress (readS s 0) 0).toNat + k) % 2 ^ 32)).isSome := by decide
theorem test_witness_StoreWritesSixteenBytes : let s := memBlock [(2, 0xA0)] [(0, 0x10)]
    ∀ k < 16, ((effectiveAddress (readS s 0) 0xF0).toNat + k) % 2 ^ 32 < s.params.memSize := by decide
theorem test_witness_StoreThenLoadReturnsTheRegister : let s := block [(2, 0xA0)] [(0, 0x15)]
    ∀ k < 16, ((effectiveAddress (readS s 0) 0xF0).toNat + k) % 2 ^ 32 < s.params.memSize := by decide
theorem test_witness_OutOfBoundsAccessFaults_last_byte : let s := block [] [(0, 0xFF1)]
    ∃ k < 16, s.params.memSize ≤ ((effectiveAddress (readS s 0) 0).toNat + k) % 2 ^ 32 := by decide
theorem test_witness_OutOfBoundsAccessFaults_first_byte : let s := block [] []
    ∃ k < 16, s.params.memSize ≤ ((effectiveAddress (readS s 0) 0xFF).toNat + k) % 2 ^ 32 := by decide
theorem test_witness_GetExtractsALane : (3 : Byte).toNat < 4 ∧ (1 : Byte).toNat < 2 := by decide
theorem test_witness_SetlaneReplacesOneLane : (3 : Byte).toNat < 4 ∧ (1 : Byte).toNat < 2 := by decide

/-- Registers that hold the lanes of `v0`: sign-extended in s0 .. s3, zero-extended in s4 .. s7, whole in s8, s9. -/
def lanesInScalars : State :=
  block [(0, 0x8000000000000001000000027FFFFFFF)]
    [(0, 0x7FFFFFFF), (1, 2), (2, 1), (3, 0xFFFFFFFF80000000), (4, 0x7FFFFFFF), (5, 2), (6, 1), (7, 0x80000000),
     (8, 0x000000027FFFFFFF), (9, 0x8000000000000001)]

theorem test_witness_GetAndSetAreInverse_pi32 : readS lanesInScalars 3 = (v32 lanesInScalars 0 3).signExtend 64 ∧
    readS lanesInScalars 2 = (v32 lanesInScalars 0 2).signExtend 64 ∧
    readS lanesInScalars 1 = (v32 lanesInScalars 0 1).signExtend 64 ∧
    readS lanesInScalars 0 = (v32 lanesInScalars 0 0).signExtend 64 := by decide
theorem test_witness_GetAndSetAreInverse_ps : readS lanesInScalars 7 = (v32 lanesInScalars 0 3).setWidth 64 ∧
    readS lanesInScalars 6 = (v32 lanesInScalars 0 2).setWidth 64 ∧
    readS lanesInScalars 5 = (v32 lanesInScalars 0 1).setWidth 64 ∧
    readS lanesInScalars 4 = (v32 lanesInScalars 0 0).setWidth 64 := by decide
theorem test_witness_GetAndSetAreInverse_64 : readS lanesInScalars 9 = v64 lanesInScalars 0 1 ∧
    readS lanesInScalars 8 = v64 lanesInScalars 0 0 ∧ (3 : Byte).toNat < 4 ∧ (1 : Byte).toNat < 2 := by decide
theorem test_witness_DebugEqComparesAllBits : readV (block [(0, 5), (1, 5)] []) 0 = readV (block [(0, 5), (1, 5)] []) 1 ∧
    readV (block [(0, 5), (1, 6)] []) 0 ≠ readV (block [(0, 5), (1, 6)] []) 1 := by decide
theorem test_witness_ShuffleSelectsLanes : (3 : Byte).toNat ≤ 3 := by decide
theorem test_witness_BackendConstructionsAgree : (63 : Byte).toNat < 64 := by decide

/-- Lanes at the corners of integer division: v0 = -2^31, -2^31, 7, 7 and v1 = -1, 1, 0, -2 (high to low). -/
def divideCorners : State := block [(0, 0x80000000800000000000000700000007), (1, 0xFFFFFFFF0000000100000000FFFFFFFE)] []

theorem test_witness_IntegerDivideTowardZero : (v32 divideCorners 1 1).toInt = 0 ∧
    ((v32 divideCorners 0 3).toInt = -(2 ^ 31) ∧ (v32 divideCorners 1 3).toInt = -1) ∧
    ¬((v32 divideCorners 1 2).toInt = 0 ∨ (v32 divideCorners 0 2).toInt = -(2 ^ 31) ∧ (v32 divideCorners 1 2).toInt = -1) :=
  by decide
theorem test_witness_SafeDivideInteger : v32 divideCorners 1 1 = 0 ∧ v32 divideCorners 1 0 ≠ 0 := by decide
theorem test_witness_FloatSignOperations : v32 (block [(0, 0x80000000)] []) 0 0 = 0x80000000 ∧
    v32 (block [(0, 0x80000000)] []) 0 1 ≠ 0x80000000 := by decide
theorem test_witness_RoundingIsToNearestEven : (32 = 32 ∨ 32 = 64) ∧ 0 < 1 ∧ 0 < 3 := by decide
theorem test_witness_FloatMulDivAndSafediv : isZero (0x80000000 : BitVec 32) = true ∧
    isZero (0x00000001 : BitVec 32) = false := by decide
theorem test_witness_ShiftByImmediate : (31 : Byte).toNat < 32 ∧ (63 : Byte).toNat < 64 := by decide
theorem test_witness_ShiftByVectorAmount : (v32 (block [(1, 0x1F)] []) 1 0).toNat ≤ 31 ∧
    (v64 (block [(1, 0x3F)] []) 1 0).toNat ≤ 63 := by decide
theorem test_witness_ShiftFormsAgree_32 : (31 : Byte).toNat < 32 ∧
    (∀ j < 4, (v32 (block [(1, 0x0000001F0000001F0000001F0000001F)] []) 1 j).toNat = (31 : Byte).toNat) ∧
    ∀ j < 4, (v32 (block [(1, 0x80000000800000008000000080000000)] []) 1 j).toNat = 2 ^ (31 : Byte).toNat := by decide
theorem test_witness_ShiftFormsAgree_64 : (63 : Byte).toNat < 64 ∧
    (∀ j < 2, (v64 (block [(1, 0x000000000000003F000000000000003F)] []) 1 j).toNat = (63 : Byte).toNat) ∧
    ∀ j < 2, (v64 (block [(1, 0x80000000000000008000000000000000)] []) 1 j).toNat = 2 ^ (63 : Byte).toNat := by decide
theorem test_witness_CompareAndMaskIdentities : isNaN (0x7FC00000 : BitVec 32) = true ∧
    isNaN (0x7F800000 : BitVec 32) = false ∧ isNaN (0x7FF8000000000000 : BitVec 64) = true ∧
    isNaN (0x7FF0000000000000 : BitVec 64) = false := by decide
theorem test_witness_ChooseFollowsTheMask : v32 (block [(0, 0xFFFFFFFF)] []) 0 0 = BitVec.allOnes 32 ∧
    v32 (block [(0, 0xFFFFFFFF)] []) 0 1 = 0 ∧ v64 (block [(0, 0xFFFFFFFFFFFFFFFF)] []) 0 0 = BitVec.allOnes 64 ∧
    v64 (block [(0, 0xFFFFFFFFFFFFFFFF)] []) 0 1 = 0 := by decide
theorem test_witness_FloatMinMaxFast : isZero (0x80000000 : BitVec 32) = true ∧ isZero (0 : BitVec 32) = true ∧
    (0x80000000 : BitVec 32) ≠ 0 ∧ isNaN (0x80000000 : BitVec 32) = false ∧ isNaN (0 : BitVec 32) = false := by decide

/-- The pattern of 1.0 stands for 1. -/
theorem val_one : val (0x3F800000 : BitVec 32) = 1 ∧ val (0x3FF0000000000000 : BitVec 64) = 1 := by
  have e1 : expField (0x3F800000 : BitVec 32) = 127 := by decide
  have f1 : fracField (0x3F800000 : BitVec 32) = 0 := by decide
  have m1 : (0x3F800000 : BitVec 32).msb = false := by decide
  have b1 : bias 32 = 127 ∧ fracBits 32 = 23 := by decide
  have e2 : expField (0x3FF0000000000000 : BitVec 64) = 1023 := by decide
  have f2 : fracField (0x3FF0000000000000 : BitVec 64) = 0 := by decide
  have m2 : (0x3FF0000000000000 : BitVec 64).msb = false := by decide
  have b2 : bias 64 = 1023 ∧ fracBits 64 = 52 := by decide
  constructor
  · simp only [val, e1, f1, m1, b1]; norm_num
  · simp only [val, e2, f2, m2, b2]; norm_num

/-- The lanes lo = 1, x = +0, hi = -0, where R265 gives hi: no NaN, and the pairs compared are not open. -/
theorem test_witness_FloatConstrain : isNaN (0x3F800000 : BitVec 32) = false ∧ isNaN (0x80000000 : BitVec 32) = false ∧
    isNaN (0 : BitVec 32) = false ∧ ¬OppositeZeros (0x3F800000 : BitVec 32) 0 ∧
    flt (0x80000000 : BitVec 32) (0x3F800000 : BitVec 32) = true := by
  unfold OppositeZeros; decide
theorem test_witness_ConvertFloatToInteger : Machine.Finite (0x3F800000 : BitVec 32) ∧
    RoundsTo .floor (val (0x3F800000 : BitVec 32)) 1 ∧ -(2 ^ (32 - 1) : ℤ) ≤ 1 ∧ (1 : ℤ) ≤ 2 ^ (32 - 1) - 1 := by
  refine ⟨by unfold Machine.Finite; decide, ?_, by decide, by decide⟩
  rw [val_one.1]; simp [RoundsTo]
theorem test_witness_ConvertFloatToFloat : Machine.Finite (0x7F7FFFFF : BitVec 32) := by unfold Machine.Finite; decide
theorem test_witness_ConvertRoundTrips :
    (∃ b : BitVec 32, Machine.Finite b ∧ val b = (v32 (block [(0, 1)] []) 0 0).toInt) ∧
    (∃ b : BitVec 64, Machine.Finite b ∧ val b = (v64 (block [(0, 1)] []) 0 0).toInt) ∧
    isNaN (v32 (block [(0, 1)] []) 0 0) = false := by
  have h1 : (v32 (block [(0, 1)] []) 0 0).toInt = 1 := by decide
  have h2 : (v64 (block [(0, 1)] []) 0 0).toInt = 1 := by decide
  refine ⟨⟨0x3F800000, by unfold Machine.Finite; decide, ?_⟩, ⟨0x3FF0000000000000, by unfold Machine.Finite; decide, ?_⟩, by decide⟩
  · rw [val_one.1, h1]; simp
  · rw [val_one.2, h2]; simp
theorem test_witness_HostMovesWriteWhatTheySay : ({ loaded with rs := .halted } : State).rs = .halted ∧
    loaded.rs ≠ .halted ∧ ({ loaded with rs := .faulted } : State).rs ≠ .running ∧ loaded.rs = .running ∧
    0xFFF + [(0xAB : Byte)].length ≤ loaded.params.memSize ∧
    loaded.params.memSize < 0x1000 + [(0xAB : Byte)].length ∧
    0xFF + [(0xAB : Byte)].length ≤ loaded.params.imemSize ∧
    loaded.params.imemSize < 0x100 + [(0xAB : Byte)].length := by decide
theorem test_witness_HostMovesKeepTheInvariant : loaded.Inv ∧ ∃ t, hostMove .assertReset loaded = .next t :=
  ⟨loaded_inv, _, rfl⟩
theorem test_witness_BitcastsCopyAllBits : (0 < 2) ∧ (1 < 2) := by decide
theorem test_witness_ResetValues : ({ loaded with rs := .halted } : State).rs ≠ .running := by decide

/-- A running block that has stored at 0x20 in this run and is about to store at 0x10. -/
def storing : State :=
  { memBlock [] [(0, 0x10)] with
    imem := [(0x40, 0x00), (0x41, 0x02), (0x42, 0x00), (0x43, 0x18)], runStores := [0x20] }

theorem test_witness_ResetValues_running : storing.rs = .running ∧
    (match step storing with | .next u => decide (u.runStores = [0x10, 0x20]) | _ => false) = true := by decide
theorem test_reset_in_a_run : (match hostMove .assertReset storing with
    | .next t => decide (readCell t.dmem 0x0F = some 0x0F) && decide (readCell t.dmem 0x10 = none) &&
        decide (readCell t.dmem 0x2F = none) && decide (readCell t.dmem 0xFF0 = some 0xF0)
    | _ => false) = true := by decide
theorem test_reset_after_a_run : (match hostMove .assertReset { storing with rs := .halted } with
    | .next t => decide (t.dmem = storing.dmem) | _ => false) = true := by decide
theorem test_witness_FloatFormatFields : expField (0x007FFFFF : BitVec 32) = 0 ∧ 1 ≤ expField (0x00800000 : BitVec 32) ∧
    expField (0x7F7FFFFF : BitVec 32) ≤ 254 ∧ expField (0x000FFFFFFFFFFFFF : BitVec 64) = 0 ∧
    1 ≤ expField (0x0010000000000000 : BitVec 64) ∧ expField (0x7FEFFFFFFFFFFFFF : BitVec 64) ≤ 2046 := by decide
theorem test_witness_AggregateViewsRoundTrip : (0xFFFFFFFF : BitVec 32) = BitVec.allOnes 32 ∧
    (1 : BitVec 32) ≠ BitVec.allOnes 32 ∧ (1 : BitVec 32) ≠ 0 := by decide


end Sys2Proof.Tests
end

section
namespace Sys2Proof.Machine

/-! ## The frame of a step: instruction memory and the build parameters -/

/-- No instruction writes instruction memory or a build parameter: every way an instruction ends leaves both (R40,
R53). -/
theorem exec_imem_params {i : Instr} {s t : State} (h : exec i s = .next t) :
    t.imem = s.imem ∧ t.params = s.params := by
  rcases exec_cases i s with ⟨-, rd, x, e⟩ | ⟨-, rd, x, e⟩ | ⟨-, rd, ea, e⟩ | ⟨-, ea, x, e⟩ | ⟨-, e⟩
  · rw [e, doneV] at h; cases h; simp
  · rw [e, doneS] at h; cases h; simp
  · rcases loadVec_cases s rd ea with ⟨-, e'⟩ | ⟨-, e'⟩
    · rw [e, e', doneV] at h; cases h; simp
    · rw [e, e'] at h; cases h; simp
  · rcases storeVec_cases s ea x with ⟨-, e'⟩ | ⟨-, e'⟩ <;>
    · rw [e, e'] at h; cases h; simp
  · rw [e] at h; cases h; simp

/-- No step writes instruction memory or a build parameter: neither the fetch, nor a fault, nor an instruction does. -/
theorem step_imem_params {s t : State} (h : step s = .next t) : t.imem = s.imem ∧ t.params = s.params := by
  by_cases hrun : s.rs = .running
  · rcases step_cases hrun with ⟨-, e⟩ | ⟨-, -, e⟩ | ⟨-, -, ⟨c, -, e⟩ | ⟨i, -, e⟩⟩
    · rw [e] at h; cases h; simp
    · rw [e] at h; cases h; simp
    · rw [e] at h; cases h; simp
    · simpa using exec_imem_params (e.symm.trans h)
  · rw [step_of_not_running hrun] at h; cases h; simp

/-- Settles O14: a step leaves the whole list of written instruction bytes, so every byte reads as before. -/
theorem noStepWritesInstructionMemory : Obligations.NoStepWritesInstructionMemory := by
  intro s t h
  obtain ⟨himem, hparams⟩ := step_imem_params h
  exact ⟨fun a => by rw [himem], hparams⟩

/-! ## The state after reset -/

/-- The build parameters that reset leaves open keep the bounds of R7, whatever they are (log 5). -/
theorem configParams_legal : Config.params.Legal := by
  have hdata := Config.memSizeOver16.isLt
  have hinstr := Config.imemWordsOverOne.isLt
  refine ⟨?_, ?_, ?_, ?_, ?_⟩ <;> simp only [Config.params, Config.memSize, Config.imemSize] <;> omega

/-- Settles O12: the memories are empty, the block is halted with an empty fault record, and the open build parameters
are legal. -/
theorem resetStateHasTheInvariant : Obligations.ResetStateHasTheInvariant where
  dataForm := wf_reset.1
  instrForm := wf_reset.2
  dataBelow _ hc := nomatch hc
  instrBelow _ hc := nomatch hc
  legal := configParams_legal
  noFault _ := ⟨rfl, rfl, rfl⟩
  oneFault h := nomatch h
  fetchInfo _ := rfl
  storesMade _ hea := nomatch hea

end Sys2Proof.Machine
end

section
namespace Sys2Proof.Machine

/-! ## Float patterns as numbers

A pattern is a sign above a number of `W - 1` bits, and the value it stands for is a signed whole number of units
`2^-unitExp` (R11, R12). -/

/-! ### The two formats -/

/-- The widths of R11, with what their parameters have in common: three fields fill the pattern, and the bias and the
unit follow from the widths of the fields. -/
theorem format_facts {W : Nat} (hW : W = 32 ∨ W = 64) :
    1 ≤ fracBits W ∧ fracBits W + expBits W = W - 1 ∧ expMax W + 1 = 2 ^ expBits W ∧ expMax W = 2 * bias W + 1 ∧
      2 ≤ bias W ∧ unitExp W + 1 = bias W + fracBits W := by
  rcases hW with rfl | rfl <;> decide

theorem two_pow_fracBits_pos (W : Nat) : 0 < 2 ^ fracBits W := Nat.two_pow_pos _

/-! ### The fields of a pattern -/

theorem expField_eq {W : Nat} (b : BitVec W) : expField b = b.toNat / 2 ^ fracBits W % 2 ^ expBits W := by
  rw [expField, BitVec.extractLsb'_toNat, Nat.shiftRight_eq_div_pow]

theorem fracField_eq {W : Nat} (b : BitVec W) : fracField b = b.toNat % 2 ^ fracBits W := by
  rw [fracField, BitVec.extractLsb'_toNat, Nat.shiftRight_zero]

theorem fracField_lt {W : Nat} (b : BitVec W) : fracField b < 2 ^ fracBits W := by
  rw [fracField_eq]; exact Nat.mod_lt _ (two_pow_fracBits_pos W)

theorem expField_le {W : Nat} (b : BitVec W) : expField b ≤ expMax W := by
  have h : expField b < 2 ^ expBits W := by rw [expField_eq]; exact Nat.mod_lt _ (Nat.two_pow_pos _)
  unfold expMax; omega

theorem isNaN_iff {W : Nat} {b : BitVec W} : isNaN b = true ↔ expField b = expMax W ∧ fracField b ≠ 0 := by
  simp [isNaN]

theorem isInf_iff {W : Nat} {b : BitVec W} : isInf b = true ↔ expField b = expMax W ∧ fracField b = 0 := by
  simp [isInf]

theorem isZero_iff {W : Nat} {b : BitVec W} : isZero b = true ↔ expField b = 0 ∧ fracField b = 0 := by
  simp [isZero]

theorem finite_iff {W : Nat} {b : BitVec W} : Finite b ↔ expField b < expMax W := by
  have h := expField_le b
  unfold Finite; unfold expMax at *; omega

/-- Every pattern is a NaN, an infinity or finite (R12). -/
theorem finite_of_not_special {W : Nat} {b : BitVec W} (hn : isNaN b = false) (hi : isInf b = false) : Finite b := by
  rw [finite_iff]
  by_contra h
  have he : expField b = expMax W := le_antisymm (expField_le b) (not_lt.1 h)
  by_cases hf : fracField b = 0
  · exact absurd (isInf_iff.2 ⟨he, hf⟩) (by simp [hi])
  · exact absurd (isNaN_iff.2 ⟨he, hf⟩) (by simp [hn])

/-- A finite pattern is no infinity. -/
theorem isInf_of_finite {W : Nat} {b : BitVec W} (h : Finite b) : isInf b = false := by
  have h := finite_iff.1 h
  simp [isInf, h.ne]

/-- A finite pattern is no NaN. -/
theorem isNaN_of_finite {W : Nat} {b : BitVec W} (h : Finite b) : isNaN b = false := by
  have h := finite_iff.1 h
  simp [isNaN, h.ne]

/-- An infinity has exponent field `emax`, which is not that of a zero (R11). -/
theorem isZero_of_isInf {W : Nat} (hW : W = 32 ∨ W = 64) {b : BitVec W} (h : isInf b = true) : isZero b = false := by
  obtain ⟨-, -, -, hbias, -, -⟩ := format_facts hW
  by_contra hz
  have he := (isInf_iff.1 h).1
  have he' := (isZero_iff.1 (by simpa using hz)).1
  omega

/-- An infinity is no NaN. -/
theorem isNaN_of_isInf {W : Nat} {b : BitVec W} (h : isInf b = true) : isNaN b = false := by
  simp [isNaN, (isInf_iff.1 h).2]

/-! ### The number below the sign -/

/-- The magnitude, in units, of the pattern whose bits below the sign are the number `n`, for a fraction of `m` bits
(R11). Successive numbers are successive magnitudes: this is why one rounded number serves both fields. -/
def magOfBits (m n : Nat) : Nat := if n / 2 ^ m = 0 then n else (2 ^ m + n % 2 ^ m) * 2 ^ (n / 2 ^ m - 1)

/-- The magnitude of a pattern is that of its bits below the sign. -/
theorem magnitude_eq {W : Nat} (b : BitVec W) :
    magnitude b = magOfBits (fracBits W) (expField b * 2 ^ fracBits W + fracField b) := by
  have hm := two_pow_fracBits_pos W
  have hdiv : (expField b * 2 ^ fracBits W + fracField b) / 2 ^ fracBits W = expField b := by
    rw [Nat.add_comm, Nat.add_mul_div_right _ _ hm, Nat.div_eq_of_lt (fracField_lt b), Nat.zero_add]
  have hmod : (expField b * 2 ^ fracBits W + fracField b) % 2 ^ fracBits W = fracField b := by
    rw [Nat.add_comm, Nat.add_mul_mod_self_right, Nat.mod_eq_of_lt (fracField_lt b)]
  unfold magnitude magOfBits
  rw [hdiv, hmod]
  split_ifs with he
  · rw [he, Nat.zero_mul, Nat.zero_add]
  · rfl

/-- Grid step `2^e` from `2^m` up to `2^(m+1)` steps, and for `e = 0` from zero: the pattern of `r` steps is the number
`e * 2^m + r`, a carry out of the fraction included (R13). -/
theorem magOfBits_grid {m e r : Nat} (hlo : e = 0 ∨ 2 ^ m ≤ r) (hhi : r ≤ 2 ^ (m + 1)) :
    magOfBits m (e * 2 ^ m + r) = r * 2 ^ e := by
  have hm : 0 < 2 ^ m := Nat.two_pow_pos m
  have hdiv : (e * 2 ^ m + r) / 2 ^ m = e + r / 2 ^ m := by
    rw [Nat.add_comm, Nat.add_mul_div_right _ _ hm, Nat.add_comm]
  have hmod : (e * 2 ^ m + r) % 2 ^ m = r % 2 ^ m := by rw [Nat.add_comm, Nat.add_mul_mod_self_right]
  rw [pow_succ] at hhi
  unfold magOfBits
  rw [hdiv, hmod]
  rcases lt_or_ge r (2 ^ m) with hlt | hge
  · obtain rfl : e = 0 := by omega
    simp [Nat.div_eq_of_lt hlt]
  · rcases eq_or_lt_of_le hhi with rfl | hlt
    · have h2 : 2 ^ m * 2 / 2 ^ m = 2 := Nat.mul_div_cancel_left 2 hm
      rw [h2, Nat.mul_mod_right, if_neg (by omega), show e + 2 - 1 = e + 1 by omega, pow_succ]
      ring
    · have h1 : r / 2 ^ m = 1 := by rw [Nat.div_eq_iff hm]; omega
      have h2 : r % 2 ^ m = r - 2 ^ m := by rw [Nat.mod_eq_sub_mod hge, Nat.mod_eq_of_lt (by omega)]
      rw [h1, h2, if_neg (by omega), show e + 1 - 1 = e by omega, Nat.add_sub_cancel' hge]

/-- Beside the grid of step `2^e`: a pattern stands for a multiple of `2^e`, or for less than the least magnitude
`2^(m+e)` for which that grid is used. -/
theorem magOfBits_dvd_or_lt (m e n : Nat) : 2 ^ e ∣ magOfBits m n ∨ magOfBits m n < 2 ^ (m + e) := by
  have hm : 0 < 2 ^ m := Nat.two_pow_pos m
  unfold magOfBits
  split_ifs with h0
  · right
    have h1 := (Nat.div_eq_zero_iff_lt hm).1 h0
    exact h1.trans_le (Nat.pow_le_pow_right (by omega) (by omega))
  · rcases le_or_gt e (n / 2 ^ m - 1) with hle | hgt
    · exact .inl (Dvd.dvd.mul_left (Nat.pow_dvd_pow 2 hle) _)
    · right
      have hmod := Nat.mod_lt n hm
      calc (2 ^ m + n % 2 ^ m) * 2 ^ (n / 2 ^ m - 1)
          < 2 ^ (m + 1) * 2 ^ (n / 2 ^ m - 1) := by
            rw [pow_succ]; exact Nat.mul_lt_mul_of_pos_right (by omega) (Nat.two_pow_pos _)
        _ ≤ 2 ^ (m + e) := by
            rw [← pow_add]; exact Nat.pow_le_pow_right (by omega) (by omega)

/-! ### The magnitude of a pattern -/

theorem magnitude_eq_zero_iff {W : Nat} {b : BitVec W} : magnitude b = 0 ↔ isZero b = true := by
  have hm := two_pow_fracBits_pos W
  rw [isZero_iff, magnitude]
  split_ifs with he
  · simp [he]
  · simp [he]

/-- The number of units an infinity's pattern reads as (log 14). -/
def infUnits (W : Nat) : Nat := 2 ^ fracBits W * 2 ^ (expMax W - 1)

theorem magnitude_of_isInf {W : Nat} (hW : W = 32 ∨ W = 64) {b : BitVec W} (h : isInf b = true) :
    magnitude b = infUnits W := by
  obtain ⟨-, -, -, hbias, -, -⟩ := format_facts hW
  obtain ⟨he, hf⟩ := isInf_iff.1 h
  rw [magnitude, if_neg (by omega), he, hf, Nat.add_zero, infUnits]

/-- Every finite magnitude is below the number an infinity's pattern reads as (log 14). -/
theorem magnitude_lt_of_finite {W : Nat} (hW : W = 32 ∨ W = 64) {b : BitVec W} (h : Finite b) :
    magnitude b < infUnits W := by
  obtain ⟨-, -, -, hbias, -, -⟩ := format_facts hW
  have hf := fracField_lt b
  rw [finite_iff] at h
  rw [magnitude, infUnits]
  split_ifs with he
  · exact hf.trans_le (Nat.le_mul_of_pos_right _ (Nat.two_pow_pos _))
  · calc (2 ^ fracBits W + fracField b) * 2 ^ (expField b - 1)
        < 2 ^ fracBits W * 2 * 2 ^ (expField b - 1) := Nat.mul_lt_mul_of_pos_right (by omega) (Nat.two_pow_pos _)
      _ = 2 ^ fracBits W * 2 ^ (expField b - 1 + 1) := by rw [pow_succ]; ring
      _ ≤ 2 ^ fracBits W * 2 ^ (expMax W - 1) :=
          Nat.mul_le_mul_left _ (Nat.pow_le_pow_right (by omega) (by omega))

/-! ### The value of a pattern -/

/-- The value of a pattern is its signed magnitude times the unit `2^-unitExp` (R11). -/
theorem val_eq_scaled {W : Nat} (hW : W = 32 ∨ W = 64) (b : BitVec W) :
    val b = (scaled b : ℚ) * 2 ^ (-(unitExp W : ℤ)) := by
  obtain ⟨-, -, -, -, -, hunit⟩ := format_facts hW
  have hmag : (if expField b = 0 then (fracField b : ℚ) * 2 ^ (1 - (bias W : ℤ) - fracBits W)
      else (2 ^ fracBits W + fracField b : ℚ) * 2 ^ ((expField b : ℤ) - bias W - fracBits W)) =
      (magnitude b : ℚ) * 2 ^ (-(unitExp W : ℤ)) := by
    rw [magnitude]
    split_ifs with he
    · rw [show 1 - (bias W : ℤ) - fracBits W = -(unitExp W : ℤ) by omega]
    · push_cast
      rw [show (expField b : ℤ) - bias W - fracBits W = ((expField b - 1 : ℕ) : ℤ) + -(unitExp W : ℤ) by omega,
        zpow_add₀ two_ne_zero, zpow_natCast, mul_assoc]
  rw [val, hmag, scaled, signOf]
  split_ifs <;> push_cast <;> ring

theorem scaled_eq_zero_iff {W : Nat} {b : BitVec W} : scaled b = 0 ↔ isZero b = true := by
  rw [← magnitude_eq_zero_iff, scaled]
  split_ifs <;> omega

theorem val_eq_zero_iff {W : Nat} (hW : W = 32 ∨ W = 64) {b : BitVec W} : val b = 0 ↔ isZero b = true := by
  rw [val_eq_scaled hW, mul_eq_zero, or_iff_left (zpow_ne_zero _ two_ne_zero), Int.cast_eq_zero, scaled_eq_zero_iff]

theorem natAbs_scaled {W : Nat} (b : BitVec W) : (scaled b).natAbs = magnitude b := by
  rw [scaled]; split_ifs <;> omega

end Sys2Proof.Machine
end

section
namespace Sys2Proof.Machine

/-! ## The fields as numbers (R11, R12) -/

theorem signOf_iff {W : Nat} (b : BitVec W) : signOf b = true ↔ 2 ^ (W - 1) ≤ b.toNat := by
  rw [signOf, BitVec.msb_eq_decide, decide_eq_true_iff]

/-- A zero is a pattern without a bit below its sign (R11). -/
theorem isZero_iff_toNat {W : Nat} (hW : W = 32 ∨ W = 64) (b : BitVec W) :
    isZero b = true ↔ b.toNat % 2 ^ (W - 1) = 0 := by
  obtain ⟨-, hbits, -, -, -, -⟩ := format_facts hW
  rw [isZero_iff, expField_eq, fracField_eq, ← hbits, pow_add, Nat.mod_mul, Nat.add_eq_zero_iff, mul_eq_zero,
    or_iff_right (two_pow_fracBits_pos W).ne', and_comm]

/-- The value at exponent field zero, in units of `2^q` (R11). -/
theorem val_of_expField_zero {W : Nat} {b : BitVec W} {q : ℤ} (hq : 1 - (bias W : ℤ) - fracBits W = q)
    (he : expField b = 0) :
    val b = (if 2 ^ (W - 1) ≤ b.toNat then -1 else 1) * ((fracField b : ℚ) * 2 ^ q) := by
  rw [val, if_pos he, hq, BitVec.msb_eq_decide]
  simp only [decide_eq_true_eq]

/-- The value at another exponent field (R11). -/
theorem val_of_expField_pos {W : Nat} {b : BitVec W} {q : ℤ} (hq : (bias W : ℤ) + fracBits W = q)
    (he : 1 ≤ expField b) :
    val b = (if 2 ^ (W - 1) ≤ b.toNat then -1 else 1) *
      ((2 ^ fracBits W + fracField b : ℚ) * 2 ^ ((expField b : ℤ) - q)) := by
  have hne : expField b ≠ 0 := by omega
  rw [val, if_neg hne, sub_sub, hq, BitVec.msb_eq_decide]
  simp only [decide_eq_true_eq]

/-- Settles O37: the facts of both formats, with their numbers put in. -/
theorem floatFormatFields : Obligations.FloatFormatFields := by
  refine ⟨fun b => ?_, fun b => ?_, bias_32, bias_64, fracBits_32, fracBits_64⟩
  · exact ⟨expField_eq b, fracField_eq b, isNaN_iff, isInf_iff, isZero_iff_toNat (.inl rfl) b, signOf_iff b,
      finite_iff.trans Nat.lt_succ_iff, val_of_expField_zero rfl, fun he _ => val_of_expField_pos rfl he⟩
  · exact ⟨expField_eq b, fracField_eq b, isNaN_iff, isInf_iff, isZero_iff_toNat (.inr rfl) b, signOf_iff b,
      finite_iff.trans Nat.lt_succ_iff, val_of_expField_zero rfl, fun he _ => val_of_expField_pos rfl he⟩

end Sys2Proof.Machine
end

section
namespace Sys2Proof.Machine

/-! ## Rounding to the nearest pattern (R13) -/

/-! ### The quotient rounded to nearest even, over the rationals -/

/-- A rounded quotient is at most `k` if the quotient is. -/
theorem rneDiv_le {num den k : Nat} (hden : 0 < den) (h : num ≤ k * den) : rneDiv num den ≤ k := by
  have hnear := (rneDiv_near num hden).2
  by_contra hk
  have : (2 * (k + 1)) * den ≤ 2 * rneDiv num den * den := Nat.mul_le_mul_right _ (by omega)
  linarith

/-- A rounded quotient is at least `k` if the quotient is. -/
theorem le_rneDiv {num den k : Nat} (hden : 0 < den) (h : k * den ≤ num) : k ≤ rneDiv num den := by
  have hnear := (rneDiv_near num hden).1
  by_contra hk
  have : (2 * rneDiv num den + 1 + 1) * den ≤ 2 * k * den := Nat.mul_le_mul_right _ (by omega)
  linarith

/-- Halfway between two whole numbers the rounded quotient is even. -/
theorem rneDiv_even_of_half {num den q : Nat} (h : 2 * num = (2 * q + 1) * den) : rneDiv num den % 2 = 0 := by
  rcases Nat.eq_zero_or_pos den with rfl | hden
  · obtain rfl : num = 0 := by omega
    rfl
  · apply rneDiv_tie
    rw [← Nat.mul_mod_mul_left, h, show (2 * q + 1) * den = den + 2 * den * q by ring, Nat.add_mul_mod_self_left,
      Nat.mod_eq_of_lt (by omega)]

/-- An even number `k` is reached from the midpoint below it on, the midpoint included. -/
theorem even_le_rneDiv_iff {num den k : Nat} (hden : 0 < den) (hk : k % 2 = 0) (hpos : 0 < k) :
    k ≤ rneDiv num den ↔ (2 * k - 1) * den ≤ 2 * num := by
  obtain ⟨q, rfl⟩ : ∃ q, k = q + 1 := ⟨k - 1, by omega⟩
  obtain ⟨hlo, hhi⟩ := rneDiv_near num hden
  rw [show 2 * (q + 1) - 1 = 2 * q + 1 by omega]
  constructor
  · intro h
    have : 2 * (q + 1) * den ≤ 2 * rneDiv num den * den := Nat.mul_le_mul_right _ (by omega)
    linarith
  · intro h
    have hq : q ≤ rneDiv num den := by
      by_contra hq
      have : (2 * rneDiv num den + 1) * den < (2 * q + 1) * den := Nat.mul_lt_mul_of_pos_right (by omega) hden
      linarith
    rcases eq_or_lt_of_le hq with heq | hlt
    · rw [← heq] at hlo
      have := rneDiv_even_of_half (le_antisymm hlo h)
      omega
    · exact hlt

/-- The rounded quotient is within a half of the quotient, and even where it is a half away: R13's and R17's rounding
over the rationals. -/
theorem abs_sub_rneDiv (num : Nat) {den : Nat} (hden : 0 < den) :
    |(num : ℚ) / den - rneDiv num den| ≤ 1 / 2 ∧
      (|(num : ℚ) / den - rneDiv num den| = 1 / 2 → rneDiv num den % 2 = 0) := by
  obtain ⟨hlo, hhi⟩ := rneDiv_near num hden
  have hd : (0 : ℚ) < den := by exact_mod_cast hden
  have hlo' : 2 * (num : ℚ) ≤ (2 * rneDiv num den + 1) * den := by exact_mod_cast hlo
  have hhi' : 2 * (rneDiv num den : ℚ) * den ≤ 2 * num + den := by exact_mod_cast hhi
  constructor
  · rw [abs_le]
    constructor
    · rw [le_sub_iff_add_le, le_div_iff₀ hd]; linarith
    · rw [sub_le_iff_le_add, div_le_iff₀ hd]; linarith
  · intro h
    rcases (abs_eq (by norm_num)).1 h with h | h
    · rw [sub_eq_iff_eq_add, div_eq_iff hd.ne'] at h
      have : 2 * (num : ℚ) = (2 * rneDiv num den + 1) * den := by linarith
      exact rneDiv_even_of_half (q := rneDiv num den) (by exact_mod_cast this)
    · rw [sub_eq_iff_eq_add, div_eq_iff hd.ne'] at h
      have h2 : 2 * (num : ℚ) + den = 2 * rneDiv num den * den := by linarith
      have h3 : 2 * num + den = 2 * rneDiv num den * den := by exact_mod_cast h2
      rcases Nat.eq_zero_or_eq_succ_pred (rneDiv num den) with h0 | hs
      · rw [h0]
      · refine rneDiv_even_of_half (q := (rneDiv num den).pred) ?_
        rw [hs, Nat.succ_eq_add_one] at h3
        linarith

/-! ### The grid around a magnitude -/

/-- The rounded number of grid steps in `num / den` units (R13). -/
def gridSteps (W num den : Nat) : Nat := rneDiv num (den * 2 ^ gridExp W num den)

theorem roundMagnitude_eq (W num den : Nat) : roundMagnitude W num den =
    min (gridExp W num den * 2 ^ fracBits W + gridSteps W num den) (expMax W * 2 ^ fracBits W) := rfl

/-- The magnitude is below the top of its grid. -/
theorem num_lt_grid_top (W num : Nat) {den : Nat} (hden : 0 < den) :
    num < 2 ^ (fracBits W + 1) * (den * 2 ^ gridExp W num den) := by
  have h1 : num / den < 2 ^ (fracBits W + 1 + gridExp W num den) :=
    Nat.lt_log2_self.trans_le (Nat.pow_le_pow_right (by omega) (by unfold gridExp; omega))
  rw [Nat.div_lt_iff_lt_mul hden, pow_add] at h1
  linarith

/-- The magnitude is at or above the bottom of its grid, unless the grid is the finest one. -/
theorem grid_bottom_le_num (W num : Nat) {den : Nat} (hden : 0 < den) :
    gridExp W num den = 0 ∨ 2 ^ fracBits W * (den * 2 ^ gridExp W num den) ≤ num := by
  rcases Nat.eq_zero_or_pos (gridExp W num den) with h0 | hpos
  · exact .inl h0
  · right
    have hlog : fracBits W + gridExp W num den = (num / den).log2 := by unfold gridExp at *; omega
    have hne : num / den ≠ 0 := by
      intro h
      rw [h, Nat.log2_zero] at hlog
      omega
    have h1 := Nat.log2_self_le hne
    rw [← hlog, Nat.le_div_iff_mul_le hden, pow_add] at h1
    linarith

theorem gridSteps_le (W num : Nat) {den : Nat} (hden : 0 < den) : gridSteps W num den ≤ 2 ^ (fracBits W + 1) :=
  rneDiv_le (Nat.mul_pos hden (Nat.two_pow_pos _)) (num_lt_grid_top W num hden).le

theorem le_gridSteps (W num : Nat) {den : Nat} (hden : 0 < den) :
    gridExp W num den = 0 ∨ 2 ^ fracBits W ≤ gridSteps W num den :=
  (grid_bottom_le_num W num hden).imp_right (le_rneDiv (Nat.mul_pos hden (Nat.two_pow_pos _)))

/-- The magnitude in units that `num / den` is rounded to, where the range does not end before it (R13). -/
def gridValue (W num den : Nat) : Nat := gridSteps W num den * 2 ^ gridExp W num den

/-- Among the multiples of the grid step the rounded one is nearest, and an even one where another is equally near. -/
theorem gridValue_nearest_multiple (W num : Nat) {den : Nat} (hden : 0 < den) {a : Nat}
    (ha : 2 ^ gridExp W num den ∣ a) :
    |(num : ℚ) / den - gridValue W num den| ≤ |(num : ℚ) / den - a| ∧
      (a ≠ gridValue W num den → |(num : ℚ) / den - gridValue W num den| = |(num : ℚ) / den - a| →
        gridSteps W num den % 2 = 0) := by
  obtain ⟨k, rfl⟩ := ha
  have hg : (0 : ℚ) < 2 ^ gridExp W num den := by positivity
  have hd : (den : ℚ) ≠ 0 := by exact_mod_cast hden.ne'
  have hscale : ∀ j : ℕ, |(num : ℚ) / den - (j * 2 ^ gridExp W num den : ℕ)| =
      |(num : ℚ) / (den * 2 ^ gridExp W num den : ℕ) - j| * 2 ^ gridExp W num den := by
    intro j
    rw [← (abs_mul _ _).trans (congrArg _ (abs_of_pos hg))]
    congr 1
    push_cast
    field_simp
  obtain ⟨hhalf, heven⟩ := abs_sub_rneDiv num (den := den * 2 ^ gridExp W num den)
    (Nat.mul_pos hden (Nat.two_pow_pos _))
  rw [Nat.mul_comm _ k, gridValue, hscale, hscale]
  rw [← gridSteps] at hhalf heven
  generalize (num : ℚ) / (den * 2 ^ gridExp W num den : ℕ) = y at *
  have hapart : k ≠ gridSteps W num den → 1 ≤ |y - gridSteps W num den| + |y - k| := by
    intro hk
    have h1 : (1 : ℤ) ≤ |(k : ℤ) - gridSteps W num den| := Int.one_le_abs (by omega)
    calc (1 : ℚ) ≤ |(k : ℚ) - gridSteps W num den| := by exact_mod_cast h1
      _ = |(y - gridSteps W num den) - (y - k)| := by congr 1; ring
      _ ≤ _ := abs_sub _ _
  constructor
  · refine mul_le_mul_of_nonneg_right ?_ hg.le
    by_cases hk : k = gridSteps W num den
    · rw [hk]
    · linarith [hapart hk]
  · intro hne htie
    have hk : k ≠ gridSteps W num den := fun hk => hne (by rw [hk])
    have heq := mul_right_cancel₀ hg.ne' htie
    exact heven (by linarith [hapart hk])

/-- No pattern is nearer to a magnitude than the rounded one, and its number of grid steps is even where a pattern of
another magnitude is equally near: a pattern off the grid lies below the grid's bottom, which is nearer (R13). -/
theorem gridValue_nearest (W num : Nat) {den : Nat} (hden : 0 < den) (n : Nat) :
    |(num : ℚ) / den - gridValue W num den| ≤ |(num : ℚ) / den - magOfBits (fracBits W) n| ∧
      (magOfBits (fracBits W) n ≠ gridValue W num den →
        |(num : ℚ) / den - gridValue W num den| = |(num : ℚ) / den - magOfBits (fracBits W) n| →
        gridSteps W num den % 2 = 0) := by
  rcases magOfBits_dvd_or_lt (fracBits W) (gridExp W num den) n with hdvd | hlt
  · exact gridValue_nearest_multiple W num hden hdvd
  · rcases grid_bottom_le_num W num hden with h0 | hbot
    · exact gridValue_nearest_multiple W num hden (by rw [h0, pow_zero]; exact one_dvd _)
    · have hd : (0 : ℚ) < den := by exact_mod_cast hden
      have hlt' : (magOfBits (fracBits W) n : ℚ) < (2 ^ (fracBits W + gridExp W num den) : ℕ) := by exact_mod_cast hlt
      have hbot' : ((2 ^ (fracBits W + gridExp W num den) : ℕ) : ℚ) ≤ num / den := by
        rw [le_div_iff₀ hd, pow_add]
        exact_mod_cast (by linarith :
          2 ^ fracBits W * 2 ^ gridExp W num den * den ≤ num)
      have hnear := (gridValue_nearest_multiple W num hden
        (pow_dvd_pow 2 (Nat.le_add_left (gridExp W num den) (fracBits W)))).1
      have hstrict : |(num : ℚ) / den - gridValue W num den| < |(num : ℚ) / den - magOfBits (fracBits W) n| := by
        rw [abs_of_nonneg (sub_nonneg.2 hbot')] at hnear
        rw [abs_of_nonneg (a := (num : ℚ) / den - magOfBits (fracBits W) n) (by linarith)]
        linarith
      exact ⟨hstrict.le, fun _ htie => absurd htie hstrict.ne⟩

/-- The rounded number of grid steps runs into the infinity's pattern exactly from the midpoint above the largest finite
magnitude, `(2^(m+2) - 1) * 2^(emax - 3)` units, on (R13). -/
theorem expMax_le_round_iff {W : Nat} (hW : W = 32 ∨ W = 64) (num : Nat) {den : Nat} (hden : 0 < den) :
    expMax W * 2 ^ fracBits W ≤ gridExp W num den * 2 ^ fracBits W + gridSteps W num den ↔
      (2 ^ (fracBits W + 2) - 1) * 2 ^ (expMax W - 3) * den ≤ num := by
  obtain ⟨hm1, -, -, hbias, hbias2, -⟩ := format_facts hW
  obtain ⟨K, hK⟩ : ∃ K, expMax W = K + 3 := ⟨expMax W - 3, by omega⟩
  have hm := two_pow_fracBits_pos W
  have htop := num_lt_grid_top W num hden
  have hle := gridSteps_le W num hden
  rw [hK, Nat.add_sub_cancel]
  rcases lt_trichotomy (gridExp W num den) (K + 1) with hlt | heq | hgt
  · have hL : ¬(K + 3) * 2 ^ fracBits W ≤ gridExp W num den * 2 ^ fracBits W + gridSteps W num den := by
      have : gridExp W num den * 2 ^ fracBits W ≤ K * 2 ^ fracBits W := Nat.mul_le_mul_right _ (by omega)
      rw [pow_succ] at hle
      linarith
    have hR : ¬(2 ^ (fracBits W + 2) - 1) * 2 ^ K * den ≤ num := by
      rw [not_le]
      calc num < 2 ^ (fracBits W + 1) * (den * 2 ^ gridExp W num den) := htop
        _ ≤ (2 ^ (fracBits W + 2) - 1) * (den * 2 ^ K) := by
          refine Nat.mul_le_mul ?_ (Nat.mul_le_mul_left _ (Nat.pow_le_pow_right (by omega) (by omega)))
          rw [pow_succ, pow_succ]; omega
        _ = (2 ^ (fracBits W + 2) - 1) * 2 ^ K * den := by ring
    exact iff_of_false hL hR
  · have hsteps := even_le_rneDiv_iff (num := num) (den := den * 2 ^ gridExp W num den) (k := 2 ^ (fracBits W + 1))
      (Nat.mul_pos hden (Nat.two_pow_pos _)) (by rw [pow_succ]; omega) (Nat.two_pow_pos _)
    rw [← gridSteps, heq] at hsteps
    rw [heq]
    have hL : (K + 3) * 2 ^ fracBits W ≤ (K + 1) * 2 ^ fracBits W + gridSteps W num den ↔
        2 ^ (fracBits W + 1) ≤ gridSteps W num den := by
      rw [show (K + 3) * 2 ^ fracBits W = (K + 1) * 2 ^ fracBits W + 2 ^ (fracBits W + 1) by ring]
      exact Nat.add_le_add_iff_left
    rw [hL, hsteps, show 2 * 2 ^ (fracBits W + 1) = 2 ^ (fracBits W + 2) by ring,
      show (2 ^ (fracBits W + 2) - 1) * (den * 2 ^ (K + 1)) = 2 * ((2 ^ (fracBits W + 2) - 1) * 2 ^ K * den) by ring]
    exact Nat.mul_le_mul_left_iff (by omega)
  · have hL : (K + 3) * 2 ^ fracBits W ≤ gridExp W num den * 2 ^ fracBits W + gridSteps W num den := by
      have hge := (le_gridSteps W num hden).resolve_left (by omega)
      have : (K + 2) * 2 ^ fracBits W ≤ gridExp W num den * 2 ^ fracBits W := Nat.mul_le_mul_right _ (by omega)
      linarith
    have hR : (2 ^ (fracBits W + 2) - 1) * 2 ^ K * den ≤ num := by
      calc (2 ^ (fracBits W + 2) - 1) * 2 ^ K * den ≤ 2 ^ (fracBits W + 2) * 2 ^ K * den :=
            Nat.mul_le_mul_right _ (Nat.mul_le_mul_right _ (Nat.sub_le _ _))
        _ = 2 ^ fracBits W * (den * 2 ^ (K + 2)) := by ring
        _ ≤ 2 ^ fracBits W * (den * 2 ^ gridExp W num den) :=
            Nat.mul_le_mul_left _ (Nat.mul_le_mul_left _ (Nat.pow_le_pow_right (by omega) (by omega)))
        _ ≤ num := (grid_bottom_le_num W num hden).resolve_left (by omega)
    exact iff_of_true hL hR

end Sys2Proof.Machine
end

section
namespace Sys2Proof.Machine

/-! ## Patterns built from a sign and a number -/

theorem withSign_fields {W : Nat} (hW : W = 32 ∨ W = 64) (neg : Bool) {n : Nat} (h : n < 2 ^ (W - 1)) :
    signOf (withSign W neg n) = neg ∧ expField (withSign W neg n) = n / 2 ^ fracBits W ∧
      fracField (withSign W neg n) = n % 2 ^ fracBits W := by
  rcases hW with rfl | rfl
  · exact withSign32_fields neg h
  · exact withSign64_fields neg h

/-- The numbers below the sign that have exponent field `emax` or less fit below the sign (R11). -/
theorem lt_sign_of_lt {W : Nat} (hW : W = 32 ∨ W = 64) {n : Nat} (h : n < (expMax W + 1) * 2 ^ fracBits W) :
    n < 2 ^ (W - 1) := by
  obtain ⟨-, hbits, hmax, -, -, -⟩ := format_facts hW
  rwa [hmax, ← pow_add, Nat.add_comm, hbits] at h

/-- `infinity` is the infinity of its sign. -/
theorem isInfinity_infinity {W : Nat} (hW : W = 32 ∨ W = 64) (neg : Bool) : IsInfinity neg (infinity W neg) := by
  have hm := two_pow_fracBits_pos W
  obtain ⟨hsign, hexp, hfrac⟩ := withSign_fields hW neg
    (lt_sign_of_lt hW (Nat.mul_lt_mul_of_pos_right (Nat.lt_succ_self (expMax W)) hm))
  rw [Nat.mul_div_cancel _ hm] at hexp
  rw [Nat.mul_mod_left] at hfrac
  exact ⟨isInf_iff.2 ⟨hexp, hfrac⟩, hsign⟩

/-- `zero` is the zero of its sign. -/
theorem isZero_zero {W : Nat} (hW : W = 32 ∨ W = 64) (neg : Bool) : IsZero neg (zero W neg) := by
  obtain ⟨hsign, hexp, hfrac⟩ := withSign_fields hW neg (Nat.two_pow_pos (W - 1))
  rw [Nat.zero_div] at hexp
  rw [Nat.zero_mod] at hfrac
  exact ⟨isZero_iff.2 ⟨hexp, hfrac⟩, hsign⟩

/-- `nanDraw` is a NaN, whatever its opaque sign and payload are (R15, log 6). -/
theorem isNaN_nanDraw {W : Nat} (hW : W = 32 ∨ W = 64) (p : Params) (op : BitVec 8) (k : Kind) {WS : Nat}
    (operands : List (BitVec WS)) : isNaN (nanDraw W p op k operands) = true := by
  obtain ⟨hm1, -, -, -, -, -⟩ := format_facts hW
  have hm : 2 ^ 1 ≤ 2 ^ fracBits W := Nat.pow_le_pow_right (by omega) hm1
  have hpay := Nat.mod_lt (Config.nanPayload p op k operands) (show 0 < 2 ^ fracBits W - 1 by omega)
  obtain ⟨F, hF⟩ : ∃ F, F = 1 + Config.nanPayload p op k operands % (2 ^ fracBits W - 1) := ⟨_, rfl⟩
  have hFlt : F < 2 ^ fracBits W := by omega
  obtain ⟨-, hexp, hfrac⟩ := withSign_fields hW (Config.nanSign p op k operands)
    (lt_sign_of_lt hW (n := expMax W * 2 ^ fracBits W + F) (by rw [Nat.succ_mul]; omega))
  rw [nanDraw, ← hF, isNaN_iff, hexp, hfrac, Nat.add_comm, Nat.add_mul_div_right _ _ (by omega), Nat.div_eq_of_lt hFlt,
    Nat.add_mul_mod_self_right, Nat.mod_eq_of_lt hFlt]
  exact ⟨Nat.zero_add _, by omega⟩

/-! ## The rounded pattern -/

theorem roundMagnitude_le (W num den : Nat) : roundMagnitude W num den ≤ expMax W * 2 ^ fracBits W := min_le_right _ _

theorem roundTo_fields {W : Nat} (hW : W = 32 ∨ W = 64) (neg : Bool) (num den : Nat) :
    signOf (roundTo W neg num den) = neg ∧
      expField (roundTo W neg num den) = roundMagnitude W num den / 2 ^ fracBits W ∧
      fracField (roundTo W neg num den) = roundMagnitude W num den % 2 ^ fracBits W :=
  withSign_fields hW neg (lt_sign_of_lt hW ((roundMagnitude_le W num den).trans_lt
    (Nat.mul_lt_mul_of_pos_right (Nat.lt_succ_self _) (two_pow_fracBits_pos W))))

/-- The rounded pattern is the infinity if the number below its sign is the infinity's, and finite otherwise. -/
theorem roundTo_infinite_or_finite {W : Nat} (hW : W = 32 ∨ W = 64) (neg : Bool) (num den : Nat) :
    (isInf (roundTo W neg num den) = true ∧
      expMax W * 2 ^ fracBits W ≤ gridExp W num den * 2 ^ fracBits W + gridSteps W num den) ∨
    (Finite (roundTo W neg num den) ∧
      roundMagnitude W num den = gridExp W num den * 2 ^ fracBits W + gridSteps W num den ∧
      gridExp W num den * 2 ^ fracBits W + gridSteps W num den < expMax W * 2 ^ fracBits W) := by
  have hm := two_pow_fracBits_pos W
  obtain ⟨-, hexp, hfrac⟩ := roundTo_fields hW neg num den
  rcases le_or_gt (expMax W * 2 ^ fracBits W) (gridExp W num den * 2 ^ fracBits W + gridSteps W num den) with hge | hlt
  · left
    rw [roundMagnitude_eq, min_eq_right hge] at hexp hfrac
    rw [Nat.mul_div_cancel _ hm] at hexp
    rw [Nat.mul_mod_left] at hfrac
    exact ⟨isInf_iff.2 ⟨hexp, hfrac⟩, hge⟩
  · right
    have hmag : roundMagnitude W num den = _ := (roundMagnitude_eq W num den).trans (min_eq_left hlt.le)
    refine ⟨?_, hmag, hlt⟩
    rw [finite_iff, hexp, hmag]
    exact (Nat.div_lt_iff_lt_mul hm).2 hlt

/-- A finite rounded pattern has the rounded magnitude. -/
theorem magnitude_roundTo {W : Nat} (hW : W = 32 ∨ W = 64) (neg : Bool) (num : Nat) {den : Nat} (hden : 0 < den)
    (h : Finite (roundTo W neg num den)) : magnitude (roundTo W neg num den) = gridValue W num den := by
  obtain ⟨-, hexp, hfrac⟩ := roundTo_fields hW neg num den
  rcases roundTo_infinite_or_finite hW neg num den with ⟨hinf, -⟩ | ⟨-, hmag, -⟩
  · exact absurd hinf (by simp [isInf_of_finite h])
  · rw [magnitude_eq, hexp, hfrac, Nat.div_add_mod', hmag,
      magOfBits_grid (le_gridSteps W num hden) (gridSteps_le W num hden), gridValue]

/-- The fraction of a finite rounded pattern is even if its number of grid steps is. -/
theorem fracField_roundTo_even {W : Nat} (hW : W = 32 ∨ W = 64) (neg : Bool) {num den : Nat}
    (h : Finite (roundTo W neg num den)) (heven : gridSteps W num den % 2 = 0) :
    fracField (roundTo W neg num den) % 2 = 0 := by
  obtain ⟨hm1, -, -, -, -, -⟩ := format_facts hW
  have h2 : 2 ∣ 2 ^ fracBits W := dvd_pow_self 2 (by omega)
  obtain ⟨-, -, hfrac⟩ := roundTo_fields hW neg num den
  rcases roundTo_infinite_or_finite hW neg num den with ⟨hinf, -⟩ | ⟨-, hmag, -⟩
  · exact absurd hinf (by simp [isInf_of_finite h])
  · rw [hfrac, Nat.mod_mod_of_dvd _ h2, hmag]
    exact Nat.mod_eq_zero_of_dvd (dvd_add (Dvd.dvd.mul_left h2 _) (Nat.dvd_of_mod_eq_zero heven))

/-! ### Distances between signed magnitudes -/

/-- The number of sign `neg` and magnitude `y`. -/
def signed (neg : Bool) (y : ℚ) : ℚ := if neg then -y else y

theorem abs_signed (neg : Bool) (y : ℚ) : |signed neg y| = |y| := by cases neg <;> simp [signed]

/-- The opposite sign is the opposite magnitude. -/
theorem signed_not (neg : Bool) (y : ℚ) : signed (!neg) y = signed neg (-y) := by cases neg <;> simp [signed]

theorem signed_sub (neg : Bool) (y z : ℚ) : signed neg y - signed neg z = signed neg (y - z) := by
  cases neg <;> simp [signed]; ring

theorem scaled_eq_signed {W : Nat} (b : BitVec W) : (scaled b : ℚ) = signed (signOf b) (magnitude b) := by
  rw [scaled, signed]; split_ifs <;> push_cast <;> rfl

/-- Numbers are at least as far apart as their magnitudes. -/
theorem abs_sub_le_abs_signed_sub (neg neg' : Bool) {y z : ℚ} (hy : 0 ≤ y) (hz : 0 ≤ z) :
    |y - z| ≤ |signed neg y - signed neg' z| := by
  have h := abs_abs_sub_abs_le (signed neg y) (signed neg' z)
  rwa [abs_signed, abs_signed, abs_of_nonneg hy, abs_of_nonneg hz] at h

/-- Of the two numbers of one magnitude, a positive magnitude's own sign is the nearer one. -/
theorem signed_eq_of_abs_sub_eq {neg neg' : Bool} {y z : ℚ} (hy : 0 < y) (hz : 0 ≤ z)
    (h : |signed neg y - signed neg' z| = |y - z|) : signed neg' z = signed neg z := by
  by_cases hs : neg' = neg
  · rw [hs]
  · have hnot : neg' = !neg := Bool.eq_not.2 hs
    rw [hnot, signed_not, signed_sub, abs_signed, sub_neg_eq_add, abs_of_pos (by linarith)] at h
    have hz0 : z = 0 := by
      rcases abs_choice (y - z) with hc | hc <;> rw [hc] at h <;> linarith
    simp [hz0, signed]

/-- The value a pattern stands for, as a signed magnitude in units (R11). -/
theorem val_eq_signed {W : Nat} (hW : W = 32 ∨ W = 64) (b : BitVec W) :
    val b = signed (signOf b) (magnitude b) * 2 ^ (-(unitExp W : ℤ)) := by
  rw [val_eq_scaled hW, scaled_eq_signed]

/-- The distance of a real from a pattern, in units. -/
theorem abs_sub_val {W : Nat} (hW : W = 32 ∨ W = 64) (x : ℚ) (b : BitVec W) :
    |x * 2 ^ (-(unitExp W : ℤ)) - val b| = |x - signed (signOf b) (magnitude b)| * 2 ^ (-(unitExp W : ℤ)) := by
  rw [val_eq_signed hW, ← sub_mul, abs_mul, abs_of_pos (a := (2 : ℚ) ^ (-(unitExp W : ℤ))) (by positivity)]

/-! ### The rounding rule -/

/-- The midpoint above the largest finite value, in units (R13). -/
theorem overflow_threshold {W : Nat} (hW : W = 32 ∨ W = 64) :
    (2 - 2 ^ (-(fracBits W : ℤ) - 1)) * 2 ^ bias W =
      (((2 ^ (fracBits W + 2) - 1) * 2 ^ (expMax W - 3) : ℕ) : ℚ) * 2 ^ (-(unitExp W : ℤ)) := by
  obtain ⟨-, -, -, hmax, hbias, hunit⟩ := format_facts hW
  have hadd : ∀ a b : ℤ, (2 : ℚ) ^ a * 2 ^ b = 2 ^ (a + b) := fun a b => (zpow_add₀ two_ne_zero a b).symm
  rw [Nat.cast_mul, Nat.cast_pred (Nat.two_pow_pos _)]
  push_cast
  rw [← zpow_natCast 2 (bias W), ← zpow_natCast 2 (fracBits W + 2), ← zpow_natCast 2 (expMax W - 3), sub_mul, sub_mul,
    sub_mul, one_mul, hadd, hadd, hadd, hadd, ← zpow_one_add₀ two_ne_zero]
  congr 2 <;> omega

/-- Rounding overflows exactly from the midpoint above the largest finite value on (R13). -/
theorem isInf_roundTo_iff {W : Nat} (hW : W = 32 ∨ W = 64) (neg : Bool) (num : Nat) {den : Nat} (hden : 0 < den) :
    isInf (roundTo W neg num den) = true ↔
      (2 - 2 ^ (-(fracBits W : ℤ) - 1)) * 2 ^ bias W ≤ (num : ℚ) / den * 2 ^ (-(unitExp W : ℤ)) := by
  have hd : (0 : ℚ) < den := by exact_mod_cast hden
  have hbits : isInf (roundTo W neg num den) = true ↔
      expMax W * 2 ^ fracBits W ≤ gridExp W num den * 2 ^ fracBits W + gridSteps W num den := by
    rcases roundTo_infinite_or_finite hW neg num den with ⟨hinf, hge⟩ | ⟨hfin, -, hlt⟩
    · exact iff_of_true hinf hge
    · exact iff_of_false (by simp [isInf_of_finite hfin]) hlt.not_ge
  rw [hbits, expMax_le_round_iff hW num hden, overflow_threshold hW, mul_le_mul_iff_left₀ (by positivity),
    le_div_iff₀ hd]
  exact_mod_cast Iff.rfl

/-- `roundTo` is `round_W` of the real of its sign and magnitude (R13). -/
theorem isRound_roundTo {W : Nat} (hW : W = 32 ∨ W = 64) (neg : Bool) {num den : Nat} (hnum : 0 < num)
    (hden : 0 < den) :
    IsRound W (signed neg ((num : ℚ) / den) * 2 ^ (-(unitExp W : ℤ))) (roundTo W neg num den) := by
  have hy : (0 : ℚ) < num / den := div_pos (by exact_mod_cast hnum) (by exact_mod_cast hden)
  have hu : (0 : ℚ) < 2 ^ (-(unitExp W : ℤ)) := by positivity
  obtain ⟨hsign, -, -⟩ := roundTo_fields hW neg num den
  have hdist : Finite (roundTo W neg num den) →
      |signed neg ((num : ℚ) / den) * 2 ^ (-(unitExp W : ℤ)) - val (roundTo W neg num den)| =
        |(num : ℚ) / den - gridValue W num den| * 2 ^ (-(unitExp W : ℤ)) := fun hfin => by
    rw [abs_sub_val hW, hsign, magnitude_roundTo hW neg num hden hfin, signed_sub, abs_signed]
  have hfar : ∀ b : BitVec W, |(num : ℚ) / den - magnitude b| ≤
      |signed neg ((num : ℚ) / den) - signed (signOf b) (magnitude b)| :=
    fun b => abs_sub_le_abs_signed_sub neg (signOf b) hy.le (Nat.cast_nonneg _)
  have hnear : ∀ b : BitVec W, |(num : ℚ) / den - gridValue W num den| ≤ |(num : ℚ) / den - magnitude b| :=
    fun b => by rw [magnitude_eq]; exact (gridValue_nearest W num hden _).1
  refine ⟨?_, ?_, fun hfin b _ => ?_, fun hfin b _ hne htie => ?_, ?_⟩
  · rcases roundTo_infinite_or_finite hW neg num den with ⟨hinf, -⟩ | ⟨hfin, -⟩
    · exact isNaN_of_isInf hinf
    · exact isNaN_of_finite hfin
  · rw [← signOf, hsign]
    cases neg
    · simp only [signed, Bool.false_eq_true, if_false]
      exact (decide_eq_false (mul_pos hy hu).not_gt).symm
    · simp only [signed, if_true]
      exact (decide_eq_true (mul_neg_of_neg_of_pos (neg_neg_of_pos hy) hu)).symm
  · rw [hdist hfin, abs_sub_val hW]
    exact mul_le_mul_of_nonneg_right ((hnear b).trans (hfar b)) hu.le
  · rw [hdist hfin, abs_sub_val hW] at htie
    have htie := mul_right_cancel₀ hu.ne' htie
    have hmag : |(num : ℚ) / den - gridValue W num den| = |(num : ℚ) / den - magnitude b| :=
      le_antisymm (hnear b) ((hfar b).trans htie.ge)
    by_cases heq : magnitude b = gridValue W num den
    · refine absurd ?_ hne
      rw [val_eq_signed hW, val_eq_signed hW, hsign, magnitude_roundTo hW neg num hden hfin, heq]
      rw [heq] at htie
      rw [signed_eq_of_abs_sub_eq hy (Nat.cast_nonneg _) htie.symm]
    · rw [magnitude_eq] at heq hmag
      exact fracField_roundTo_even hW neg hfin ((gridValue_nearest W num hden _).2 heq hmag)
  · rw [isInf_roundTo_iff hW neg num hden, abs_mul, abs_signed, abs_of_pos hy, abs_of_pos hu]

/-- Settles O38: in units of the least subnormal, by the grid around the magnitude. -/
theorem roundingIsToNearestEven : Obligations.RoundingIsToNearestEven := by
  intro W hW neg num den hnum hden
  have h := isRound_roundTo hW neg hnum hden
  cases neg <;> simpa [signed] using h

end Sys2Proof.Machine
end

section
namespace Sys2Proof.Machine

/-! ## Lanes of an instruction's result -/

/-- A property of each lane of a lane-wise operation on 32-bit lanes. -/
theorem lanes32_zip32 {P : Nat → BitVec 32 → Prop} {f : BitVec 32 → BitVec 32 → BitVec 32} {x y : Vec}
    (h : ∀ j, j < 4 → P j (f (lane 32 x j) (lane 32 y j))) : Lanes32 P (zip32 f x y) := fun j hj => by
  rw [lane_zip32 f x y hj]; exact h j hj

/-- A property of each lane of a lane-wise operation on 64-bit lanes. -/
theorem lanes64_zip64 {P : Nat → BitVec 64 → Prop} {f : BitVec 64 → BitVec 64 → BitVec 64} {x y : Vec}
    (h : ∀ j, j < 2 → P j (f (lane 64 x j) (lane 64 y j))) : Lanes64 P (zip64 f x y) := fun j hj => by
  rw [lane_zip64 f x y hj]; exact h j hj

/-- An instruction of format `VVV` on 32-bit lanes completes with its lane function's result in every lane. -/
theorem completesV_of_vvv32 {i : Instr} {s : State} {rd ra rb : VReg} {f : BitVec 32 → BitVec 32 → BitVec 32}
    {P : Nat → BitVec 32 → Prop} (h : exec i s = vvv32 f rd ra rb s) (hP : ∀ j, P j (f (v32 s ra j) (v32 s rb j))) :
    CompletesV i s rd (Lanes32 P) :=
  completesV_of_doneV h (lanes32_zip32 fun j _ => hP j)

/-- An instruction of format `VVV` on 64-bit lanes completes with its lane function's result in every lane. -/
theorem completesV_of_vvv64 {i : Instr} {s : State} {rd ra rb : VReg} {f : BitVec 64 → BitVec 64 → BitVec 64}
    {P : Nat → BitVec 64 → Prop} (h : exec i s = vvv64 f rd ra rb s) (hP : ∀ j, P j (f (v64 s ra j) (v64 s rb j))) :
    CompletesV i s rd (Lanes64 P) :=
  completesV_of_doneV h (lanes64_zip64 fun j _ => hP j)

/-! ## The float operations over the rationals (R14) -/

/-- `roundTo` of a number given as a fraction of units rounds that number (R13). -/
theorem isRound_of_units {W : Nat} (hW : W = 32 ∨ W = 64) (neg : Bool) {num den : Nat} (hnum : 0 < num) (hden : 0 < den)
    {x : ℚ} (hx : x = signed neg ((num : ℚ) / den) * 2 ^ (-(unitExp W : ℤ))) : IsRound W x (roundTo W neg num den) :=
  hx ▸ isRound_roundTo hW neg hnum hden

/-- An integer is its magnitude with its sign. -/
theorem signed_natAbs (x : ℤ) : signed (x < 0) x.natAbs = x := by
  rw [signed, Nat.cast_natAbs]
  by_cases h : x < 0
  · simp [h, abs_of_neg h]
  · simp [h, abs_of_nonneg (not_lt.1 h)]

/-- Signs multiply as the exclusive or (R14). -/
theorem signed_mul_signed (neg neg' : Bool) (y z : ℚ) :
    signed neg y * signed neg' z = signed (neg != neg') (y * z) := by
  cases neg <;> cases neg' <;> simp [signed]

/-- Signs divide as the exclusive or (R14). -/
theorem signed_div_signed (neg neg' : Bool) (y z : ℚ) :
    signed neg y / signed neg' z = signed (neg != neg') (y / z) := by
  cases neg <;> cases neg' <;> simp [signed, neg_div, div_neg]

/-- Scaling a signed magnitude scales the magnitude. -/
theorem signed_mul (neg : Bool) (y c : ℚ) : signed neg (y * c) = signed neg y * c := by
  cases neg <;> simp [signed]

/-- Only a zero has magnitude zero. -/
theorem magnitude_pos {W : Nat} {b : BitVec W} (h : isZero b = false) : 0 < magnitude b :=
  Nat.pos_of_ne_zero fun h0 => by simp [magnitude_eq_zero_iff.1 h0] at h

/-- `fadd` gives the sum of R14, whatever NaN it is handed. -/
theorem addResult_fadd {W : Nat} (hW : W = 32 ∨ W = 64) {nan : BitVec W} (hnan : isNaN nan = true) (a b : BitVec W) :
    AddResult a b (fadd nan a b) := by
  have hsum : val a + val b = ((scaled a + scaled b : ℤ) : ℚ) * 2 ^ (-(unitExp W : ℤ)) := by
    rw [val_eq_scaled hW, val_eq_scaled hW]; push_cast; ring
  have hzero : val a + val b = 0 ↔ scaled a + scaled b = 0 := by
    rw [hsum, mul_eq_zero, or_iff_left (zpow_ne_zero _ two_ne_zero), Int.cast_eq_zero]
  unfold AddResult fadd
  by_cases hn : isNaN a = true ∨ isNaN b = true
  · simp [hn, hnan]
  · by_cases ha : isInf a = true
    · by_cases hb : isInf b = true
      · by_cases hs : a.msb = b.msb <;> simp [hn, ha, hb, hs, signOf, hnan]
      · simp [hn, ha, hb]
    · by_cases hb : isInf b = true
      · simp [hn, ha, hb]
      · by_cases h0 : scaled a + scaled b = 0
        · simp [hn, ha, hb, hzero, h0]
        · have hround : IsRound W (val a + val b)
              (roundTo W (scaled a + scaled b < 0) (scaled a + scaled b).natAbs 1) :=
            isRound_of_units hW _ (Int.natAbs_pos.2 h0) Nat.one_pos (by
              rw [Nat.cast_one, div_one, signed_natAbs, hsum])
          simpa [hn, ha, hb, hzero, h0] using hround

/-- `fmul` gives the product of R14, whatever NaN it is handed. -/
theorem mulResult_fmul {W : Nat} (hW : W = 32 ∨ W = 64) {nan : BitVec W} (hnan : isNaN nan = true) (a b : BitVec W) :
    MulResult a b (fmul nan a b) := by
  have hzero : val a * val b = 0 ↔ isZero a = true ∨ isZero b = true := by
    rw [mul_eq_zero, val_eq_zero_iff hW, val_eq_zero_iff hW]
  unfold MulResult fmul
  by_cases hn : isNaN a = true ∨ isNaN b = true
  · simp [hn, hnan]
  · by_cases hinvalid : isInf a = true ∧ isZero b = true ∨ isZero a = true ∧ isInf b = true
    · simp [hn, hinvalid, hnan]
    · by_cases hinf : isInf a = true ∨ isInf b = true
      · simpa [hn, hinvalid, hinf, signOf] using isInfinity_infinity hW (a.msb ^^ b.msb)
      · by_cases h0 : isZero a = true ∨ isZero b = true
        · simpa [hn, hinvalid, hinf, hzero, h0, signOf] using isZero_zero hW (a.msb ^^ b.msb)
        · have ha : 0 < magnitude a := magnitude_pos (Bool.eq_false_iff.2 fun h => h0 (.inl h))
          have hb : 0 < magnitude b := magnitude_pos (Bool.eq_false_iff.2 fun h => h0 (.inr h))
          have hround : IsRound W (val a * val b)
              (roundTo W (signOf a != signOf b) (magnitude a * magnitude b) (2 ^ unitExp W)) :=
            isRound_of_units hW _ (Nat.mul_pos ha hb) (Nat.two_pow_pos _) (by
              rw [val_eq_signed hW, val_eq_signed hW, mul_mul_mul_comm, signed_mul_signed, ← mul_assoc, ← signed_mul,
                zpow_neg, zpow_natCast]
              push_cast
              rw [div_eq_mul_inv])
          simpa [hn, hinvalid, hinf, hzero, h0] using hround

/-- `fdiv` gives the quotient of R14, whatever NaN it is handed. -/
theorem divResult_fdiv {W : Nat} (hW : W = 32 ∨ W = 64) {nan : BitVec W} (hnan : isNaN nan = true) (a b : BitVec W) :
    DivResult a b (fdiv nan a b) := by
  unfold DivResult fdiv
  by_cases hn : isNaN a = true ∨ isNaN b = true
  · simp [hn, hnan]
  · by_cases hinvalid : isZero a = true ∧ isZero b = true ∨ isInf a = true ∧ isInf b = true
    · simp [hn, hinvalid, hnan]
    · by_cases hia : isInf a = true
      · have hza := isZero_of_isInf hW hia
        have hib : isInf b = false := Bool.eq_false_iff.2 fun h => hinvalid (.inr ⟨hia, h⟩)
        simpa [hn, hia, hza, hib, signOf] using isInfinity_infinity hW (a.msb ^^ b.msb)
      · by_cases hib : isInf b = true
        · have hzb := isZero_of_isInf hW hib
          simpa [hn, hia, hib, hzb, signOf] using isZero_zero hW (a.msb ^^ b.msb)
        · by_cases hzb : isZero b = true
          · have hza : isZero a = false := Bool.eq_false_iff.2 fun h => hinvalid (.inl ⟨h, hzb⟩)
            simpa [hn, hia, hib, hzb, hza, signOf] using isInfinity_infinity hW (a.msb ^^ b.msb)
          · by_cases hza : isZero a = true
            · simpa [hn, hia, hib, hzb, hza, signOf] using isZero_zero hW (a.msb ^^ b.msb)
            · have ha : 0 < magnitude a := magnitude_pos (Bool.eq_false_iff.2 hza)
              have hb : 0 < magnitude b := magnitude_pos (Bool.eq_false_iff.2 hzb)
              have hround : IsRound W (val a / val b)
                  (roundTo W (signOf a != signOf b) (magnitude a * 2 ^ unitExp W) (magnitude b)) :=
                isRound_of_units hW _ (Nat.mul_pos ha (Nat.two_pow_pos _)) hb (by
                  rw [val_eq_signed hW, val_eq_signed hW, mul_div_mul_right _ _ (zpow_ne_zero _ two_ne_zero),
                    signed_div_signed, ← signed_mul, zpow_neg, zpow_natCast]
                  push_cast
                  congr 1
                  field_simp)
              simpa [hn, hia, hib, hzb, hza] using hround

/-- Settles O39: both operations are `fadd` in every lane, with a drawn NaN. -/
theorem floatAddAndSub : Obligations.FloatAddAndSub := by
  have h32 : (32 = 32 ∨ 32 = 64) := .inl rfl
  have h64 : (64 = 32 ∨ 64 = 64) := .inr rfl
  intro s rd ra rb
  refine ⟨completesV_of_vvv32 rfl fun j => ?_, completesV_of_vvv64 rfl fun j => ?_, completesV_of_vvv32 rfl fun j => ?_,
    completesV_of_vvv64 rfl fun j => ?_⟩
  · exact addResult_fadd h32 (isNaN_nanDraw h32 ..) _ _
  · exact addResult_fadd h64 (isNaN_nanDraw h64 ..) _ _
  · exact addResult_fadd h32 (isNaN_nanDraw h32 ..) _ _
  · exact addResult_fadd h64 (isNaN_nanDraw h64 ..) _ _

/-- `fsafediv` gives the dividend's bits over a zero and the quotient of R14 elsewhere (R184). -/
theorem safedivResult_fsafediv {W : Nat} (hW : W = 32 ∨ W = 64) {nan : BitVec W} (hnan : isNaN nan = true)
    (a b : BitVec W) : (isZero b = true → fsafediv nan a b = a) ∧
      (isZero b = false → DivResult a b (fsafediv nan a b)) := by
  constructor
  · intro h; rw [fsafediv, if_pos h]
  · intro h; rw [fsafediv, if_neg (by simp [h])]; exact divResult_fdiv hW hnan a b

/-- Settles O40: the lane functions are `fmul`, `fdiv` and `fsafediv`, with a drawn NaN. -/
theorem floatMulDivAndSafediv : Obligations.FloatMulDivAndSafediv := by
  have h32 : (32 = 32 ∨ 32 = 64) := .inl rfl
  have h64 : (64 = 32 ∨ 64 = 64) := .inr rfl
  intro s rd ra rb
  refine ⟨completesV_of_vvv32 rfl fun j => ?_, completesV_of_vvv64 rfl fun j => ?_, completesV_of_vvv32 rfl fun j => ?_,
    completesV_of_vvv64 rfl fun j => ?_, completesV_of_vvv32 rfl fun j => ?_, completesV_of_vvv64 rfl fun j => ?_⟩
  · exact mulResult_fmul h32 (isNaN_nanDraw h32 ..) _ _
  · exact mulResult_fmul h64 (isNaN_nanDraw h64 ..) _ _
  · exact divResult_fdiv h32 (isNaN_nanDraw h32 ..) _ _
  · exact divResult_fdiv h64 (isNaN_nanDraw h64 ..) _ _
  · exact safedivResult_fsafediv h32 (isNaN_nanDraw h32 ..) _ _
  · exact safedivResult_fsafediv h64 (isNaN_nanDraw h64 ..) _ _

end Sys2Proof.Machine
end

section
namespace Sys2Proof.Machine

/-! ## Comparisons (R16)

The model compares numbers of units, an infinity's pattern read as a number too (log 14); R16 compares values with
`-inf` below and `+inf` above them. On the numbers a pattern can read as, the one order is the other. -/

theorem infUnits_pos (W : Nat) : 0 < infUnits W := Nat.mul_pos (Nat.two_pow_pos _) (Nat.two_pow_pos _)

/-- The value, infinities included, that `z` units stand for. -/
def extOfUnits (W : Nat) (z : ℤ) : WithBot (WithTop ℚ) :=
  if z = -infUnits W then ⊥
  else if z = infUnits W then ((⊤ : WithTop ℚ) : WithBot (WithTop ℚ))
  else ((((z : ℚ) * 2 ^ (-(unitExp W : ℤ)) : ℚ) : WithTop ℚ) : WithBot (WithTop ℚ))

/-- From one infinity to the other, more units are a greater value. -/
theorem extOfUnits_strictMonoOn (W : Nat) :
    StrictMonoOn (extOfUnits W) (Set.Icc (-infUnits W : ℤ) (infUnits W)) := by
  intro z hz w hw hlt
  obtain ⟨hzlo, hzhi⟩ := hz
  obtain ⟨hwlo, hwhi⟩ := hw
  have hw0 : w ≠ -infUnits W := by omega
  have hz1 : z ≠ infUnits W := by omega
  simp only [extOfUnits, if_neg hw0, if_neg hz1]
  by_cases hz0 : z = -infUnits W
  · rw [if_pos hz0]
    split_ifs <;> exact WithBot.bot_lt_coe _
  · rw [if_neg hz0]
    by_cases hw1 : w = infUnits W
    · rw [if_pos hw1]
      exact WithBot.coe_lt_coe.2 (WithTop.coe_lt_top _)
    · rw [if_neg hw1]
      refine WithBot.coe_lt_coe.2 (WithTop.coe_lt_coe.2 ?_)
      exact mul_lt_mul_of_pos_right (by exact_mod_cast hlt) (by positivity)

/-- A pattern that is no NaN reads as a number between those of the infinities, and that number's value is R16's. -/
theorem extVal_eq_extOfUnits {W : Nat} (hW : W = 32 ∨ W = 64) {b : BitVec W} (hn : isNaN b = false) :
    scaled b ∈ Set.Icc (-infUnits W : ℤ) (infUnits W) ∧ extVal b = extOfUnits W (scaled b) := by
  have hpos := infUnits_pos W
  by_cases hi : isInf b = true
  · have hmag := magnitude_of_isInf hW hi
    rw [extVal, if_pos hi, scaled, signOf, hmag]
    cases b.msb
    · have hne : (infUnits W : ℤ) ≠ -infUnits W := by omega
      exact ⟨by simp, by simp [extOfUnits, hne]⟩
    · exact ⟨by simp, by simp [extOfUnits]⟩
  · have hmag := magnitude_lt_of_finite hW (finite_of_not_special hn (Bool.eq_false_iff.2 hi))
    have habs := natAbs_scaled b
    refine ⟨⟨by omega, by omega⟩, ?_⟩
    rw [extVal, if_neg hi, extOfUnits, if_neg (by omega), if_neg (by omega), val_eq_scaled hW]

/-- Patterns that are no NaNs are ordered as the numbers they read as. -/
theorem scaled_lt_iff {W : Nat} (hW : W = 32 ∨ W = 64) {a b : BitVec W} (ha : isNaN a = false) (hb : isNaN b = false) :
    scaled a < scaled b ↔ extVal a < extVal b := by
  obtain ⟨hmema, ea⟩ := extVal_eq_extOfUnits hW ha
  obtain ⟨hmemb, eb⟩ := extVal_eq_extOfUnits hW hb
  rw [ea, eb, (extOfUnits_strictMonoOn W).lt_iff_lt hmema hmemb]

theorem scaled_le_iff {W : Nat} (hW : W = 32 ∨ W = 64) {a b : BitVec W} (ha : isNaN a = false) (hb : isNaN b = false) :
    scaled a ≤ scaled b ↔ extVal a ≤ extVal b := by
  rw [← not_lt, ← not_lt, scaled_lt_iff hW hb ha]

theorem scaled_eq_iff {W : Nat} (hW : W = 32 ∨ W = 64) {a b : BitVec W} (ha : isNaN a = false) (hb : isNaN b = false) :
    scaled a = scaled b ↔ extVal a = extVal b := by
  rw [le_antisymm_iff, le_antisymm_iff, scaled_le_iff hW ha hb, scaled_le_iff hW hb ha]

/-- A comparison of numbers of units that agrees with one of values, with the NaN rule of R16. -/
theorem ordered_iff {W : Nat} {holds : ℤ → ℤ → Bool} {rel : Prop} {a b : BitVec W}
    (h : isNaN a = false → isNaN b = false → (holds (scaled a) (scaled b) = true ↔ rel)) :
    ordered holds a b = true ↔ isNaN a = false ∧ isNaN b = false ∧ rel := by
  rw [ordered, Bool.and_eq_true, Bool.not_eq_true', Bool.or_eq_false_iff, and_assoc]
  exact and_congr_right fun ha => and_congr_right fun hb => h ha hb

section
variable {W : Nat} (hW : W = 32 ∨ W = 64) (a b : BitVec W)
include hW

theorem flt_iff : flt a b = true ↔ isNaN a = false ∧ isNaN b = false ∧ extVal a < extVal b :=
  ordered_iff fun ha hb => decide_eq_true_iff.trans (scaled_lt_iff hW ha hb)

theorem fle_iff : fle a b = true ↔ isNaN a = false ∧ isNaN b = false ∧ extVal a ≤ extVal b :=
  ordered_iff fun ha hb => decide_eq_true_iff.trans (scaled_le_iff hW ha hb)

theorem feq_iff : feq a b = true ↔ isNaN a = false ∧ isNaN b = false ∧ extVal a = extVal b :=
  ordered_iff fun ha hb => decide_eq_true_iff.trans (scaled_eq_iff hW ha hb)

theorem fge_iff : fge a b = true ↔ isNaN a = false ∧ isNaN b = false ∧ extVal a ≥ extVal b :=
  ordered_iff fun ha hb => decide_eq_true_iff.trans (scaled_le_iff hW hb ha)

theorem fgt_iff : fgt a b = true ↔ isNaN a = false ∧ isNaN b = false ∧ extVal a > extVal b :=
  ordered_iff fun ha hb => decide_eq_true_iff.trans (scaled_lt_iff hW hb ha)

theorem fne_iff : fne a b = true ↔ isNaN a = true ∨ isNaN b = true ∨ extVal a ≠ extVal b := by
  rw [fne, Bool.or_eq_true, Bool.or_eq_true, decide_eq_true_iff, or_assoc]
  by_cases ha : isNaN a = true
  · simp [ha]
  · by_cases hb : isNaN b = true
    · simp [hb]
    · simp only [ha, hb, ne_eq, scaled_eq_iff hW (Bool.eq_false_iff.2 ha) (Bool.eq_false_iff.2 hb)]

end

/-- The mask lane of a truth value is true exactly when that holds (R22). -/
theorem truthLane_maskLane {W : Nat} {c : Bool} {p : Prop} (h : c = true ↔ p) : TruthLane p (maskLane W c) := by
  constructor
  · intro hp; rw [h.2 hp, maskLane_true]
  · intro hp; rw [Bool.eq_false_iff.2 fun hc => hp (h.1 hc), maskLane_false]

/-- Equal patterns are equal signed numbers. -/
theorem decide_eq_iff_toInt_eq {W : Nat} (a b : BitVec W) : decide (a = b) = true ↔ a.toInt = b.toInt :=
  decide_eq_true_iff.trans BitVec.toInt_inj.symm

theorem decide_ne_iff_toInt_ne {W : Nat} (a b : BitVec W) : decide (a ≠ b) = true ↔ a.toInt ≠ b.toInt :=
  decide_eq_true_iff.trans BitVec.toInt_inj.symm.not

/-- Settles O46: each lane is the mask lane of a comparison that agrees with R16's on values, or with the signed
order. -/
theorem comparesFollowTheValues : Obligations.ComparesFollowTheValues := by
  have h32 : (32 = 32 ∨ 32 = 64) := .inl rfl
  have h64 : (64 = 32 ∨ 64 = 64) := .inr rfl
  refine ⟨fun s rd ra rb => ⟨?_, ?_, ?_, ?_, ?_, ?_, ?_, ?_, ?_, ?_, ?_, ?_⟩,
    fun s rd ra rb => ⟨?_, ?_, ?_, ?_, ?_, ?_, ?_, ?_, ?_, ?_, ?_, ?_⟩⟩
  · exact completesV_of_vvv32 rfl fun _ => truthLane_maskLane (flt_iff h32 _ _)
  · exact completesV_of_vvv32 rfl fun _ => truthLane_maskLane (fle_iff h32 _ _)
  · exact completesV_of_vvv32 rfl fun _ => truthLane_maskLane (feq_iff h32 _ _)
  · exact completesV_of_vvv32 rfl fun _ => truthLane_maskLane (fne_iff h32 _ _)
  · exact completesV_of_vvv32 rfl fun _ => truthLane_maskLane (fge_iff h32 _ _)
  · exact completesV_of_vvv32 rfl fun _ => truthLane_maskLane (fgt_iff h32 _ _)
  · exact completesV_of_vvv64 rfl fun _ => truthLane_maskLane (flt_iff h64 _ _)
  · exact completesV_of_vvv64 rfl fun _ => truthLane_maskLane (fle_iff h64 _ _)
  · exact completesV_of_vvv64 rfl fun _ => truthLane_maskLane (feq_iff h64 _ _)
  · exact completesV_of_vvv64 rfl fun _ => truthLane_maskLane (fne_iff h64 _ _)
  · exact completesV_of_vvv64 rfl fun _ => truthLane_maskLane (fge_iff h64 _ _)
  · exact completesV_of_vvv64 rfl fun _ => truthLane_maskLane (fgt_iff h64 _ _)
  · exact completesV_of_vvv32 rfl fun _ => truthLane_maskLane decide_eq_true_iff
  · exact completesV_of_vvv32 rfl fun _ => truthLane_maskLane decide_eq_true_iff
  · exact completesV_of_vvv32 rfl fun _ => truthLane_maskLane (decide_eq_iff_toInt_eq _ _)
  · exact completesV_of_vvv32 rfl fun _ => truthLane_maskLane (decide_ne_iff_toInt_ne _ _)
  · exact completesV_of_vvv32 rfl fun _ => truthLane_maskLane decide_eq_true_iff
  · exact completesV_of_vvv32 rfl fun _ => truthLane_maskLane decide_eq_true_iff
  · exact completesV_of_vvv64 rfl fun _ => truthLane_maskLane decide_eq_true_iff
  · exact completesV_of_vvv64 rfl fun _ => truthLane_maskLane decide_eq_true_iff
  · exact completesV_of_vvv64 rfl fun _ => truthLane_maskLane (decide_eq_iff_toInt_eq _ _)
  · exact completesV_of_vvv64 rfl fun _ => truthLane_maskLane (decide_ne_iff_toInt_ne _ _)
  · exact completesV_of_vvv64 rfl fun _ => truthLane_maskLane decide_eq_true_iff
  · exact completesV_of_vvv64 rfl fun _ => truthLane_maskLane decide_eq_true_iff

end Sys2Proof.Machine
end

section
namespace Sys2Proof.Machine

/-! ## The host's aggregate views (R30) -/

/-- The four 32-bit lanes of a value, packed high lane first, are the value. -/
theorem pack32_lanes (x : Vec) : pack32 (lane 32 x 3) (lane 32 x 2) (lane 32 x 1) (lane 32 x 0) = x :=
  eq_of_lanes32 fun _ hj => lane_lanes32 (lane 32 x) hj

/-- The two 64-bit lanes of a value, packed high lane first, are the value. -/
theorem pack64_lanes (x : Vec) : pack64 (lane 64 x 1) (lane 64 x 0) = x :=
  eq_of_lanes64 fun _ hj => lane_lanes64 (lane 64 x) hj

theorem maskTruth_allOnes (W : Nat) : maskTruth (BitVec.allOnes W) = some true := if_pos rfl

theorem maskTruth_zero {W : Nat} (hW : 0 < W) : maskTruth (0 : BitVec W) = some false := by
  have hne : (0 : BitVec W) ≠ BitVec.allOnes W := mt BitVec.zero_eq_allOnes_iff.1 hW.ne'
  rw [maskTruth, if_neg hne, if_pos rfl]

theorem maskTruth_invalid {W : Nat} {m : BitVec W} (hones : m ≠ BitVec.allOnes W) (hzero : m ≠ 0) :
    maskTruth m = none := by
  rw [maskTruth, if_neg hones, if_neg hzero]

/-- The truth value the model reads from a mask lane is the one R30 gives it. -/
theorem maskField_maskTruth {W : Nat} (hW : 0 < W) (m : BitVec W) : MaskField m (maskTruth m) := by
  refine ⟨?_, ?_, maskTruth_invalid⟩
  · rintro rfl; exact maskTruth_allOnes W
  · rintro rfl; exact maskTruth_zero hW

/-- A boolean written as a mask lane is read back. -/
theorem maskTruth_maskLane {W : Nat} (hW : 0 < W) (b : Bool) : maskTruth (maskLane W b) = some b := by
  cases b
  · exact maskTruth_zero hW
  · exact maskTruth_allOnes W

theorem ofGenericPi32_getGenericPi32 (x : Vec) : ofGenericPi32 (getGenericPi32 x) = x := by
  simp only [ofGenericPi32, getGenericPi32, BitVec.ofInt_toInt, pack32_lanes]

theorem ofGenericPi64_getGenericPi64 (x : Vec) : ofGenericPi64 (getGenericPi64 x) = x := by
  simp only [ofGenericPi64, getGenericPi64, BitVec.ofInt_toInt, pack64_lanes]

theorem getGenericMask4_ofGenericMask4 (b3 b2 b1 b0 : Bool) :
    getGenericMask4 (ofGenericMask4 b3 b2 b1 b0) = ⟨some b3, some b2, some b1, some b0⟩ := by
  simp [getGenericMask4, ofGenericMask4, maskTruth_maskLane]

theorem getGenericMask2_ofGenericMask2 (b1 b0 : Bool) :
    getGenericMask2 (ofGenericMask2 b1 b0) = ⟨some b1, some b0⟩ := by
  simp [getGenericMask2, ofGenericMask2, maskTruth_maskLane]

/-- Settles O60: the fields are the lanes by definition, the lanes packed again are the register, and a mask lane and
its truth value determine each other. -/
theorem aggregateViewsRoundTrip : Obligations.AggregateViewsRoundTrip := by
  have h32 : 0 < 32 := by decide
  have h64 : 0 < 64 := by decide
  refine ⟨fun x => ⟨rfl, rfl, rfl, rfl, rfl, rfl, rfl, rfl, rfl, rfl, rfl, rfl⟩, fun x => ?_, fun x => ?_,
    getGenericMask4_ofGenericMask4, getGenericMask2_ofGenericMask2⟩
  · exact ⟨ofGenericPi32_getGenericPi32 x, ofGenericPi64_getGenericPi64 x, pack32_lanes x, pack64_lanes x⟩
  · exact ⟨maskField_maskTruth h32 _, maskField_maskTruth h32 _, maskField_maskTruth h32 _, maskField_maskTruth h32 _,
      maskField_maskTruth h64 _, maskField_maskTruth h64 _⟩

end Sys2Proof.Machine
end

section
namespace Sys2Proof.Machine

/-! ## Reset (R31, R326) -/

/-- STATUS of a halted block: `HALTED` reads as 0, and `BK` stands in bits 3:2 (R26). -/
theorem statusWord_of_halted {s : State} (h : s.rs = .halted) :
    statusWord s = (backendCode s.params.backend).setWidth 32 <<< 2 := by
  rw [statusWord, h]
  cases s.params.backend <;> rfl

/-- A reset of a block that is not running keeps data memory (R31). -/
theorem hostReset_dmem_of_not_running {s : State} (h : s.rs ≠ .running) : (hostReset s).dmem = s.dmem := by
  rw [hostReset_dmem, if_neg h]

/-- A reset of a running block forgets the stores noted after the instruction in progress, and no other byte (R326,
logs 13 and 21). -/
theorem readCell_hostReset_of_running {s u : State} (hrun : s.rs = .running) (hstep : step s = .next u) (a : Nat) :
    readCell (hostReset s).dmem a = if storesReach u.runStores a then none else readCell s.dmem a := by
  rw [hostReset_dmem, if_pos hrun, interruptedStores_of_step hstep, readCell_forgetStores]

/-- Settles O13: the sequencer's reset values are read off, and data memory is kept whole or but for the stores of the
interrupted run. -/
theorem resetValues : Obligations.ResetValues := by
  refine ⟨rfl, rfl, rfl, rfl, rfl, statusWord_of_halted rfl, fun s => ⟨hostReset s, rfl, rfl, rfl, rfl, rfl, rfl,
    statusWord_of_halted rfl, fun _ => rfl, fun hidle a => ?_, fun hrun u hstep a => ⟨fun hin => ?_, fun hout => ?_⟩,
    rfl⟩⟩
  · rw [hostReset_dmem_of_not_running hidle]
  · rw [readCell_hostReset_of_running hrun hstep, if_pos (storesReach_iff.2 hin)]
  · have hnot : ¬storesReach u.runStores a = true := fun h => by
      obtain ⟨ea, hea, k, hk, ha⟩ := storesReach_iff.1 h
      exact hout ea hea k hk ha
    rw [readCell_hostReset_of_running hrun hstep, if_neg hnot]

end Sys2Proof.Machine
end

section
namespace Sys2Proof.Machine

/-! ## Loads and stores (R43 to R45, R110, R115, R116) -/

/-- The four loads of R115 into `rd` at a base and an offset. -/
def loadsAt (rd : VReg) (ra : SReg) (imm8 : Byte) : List Instr :=
  [.loadUnalignedPi32 rd ra imm8, .loadUnalignedPi64 rd ra imm8, .loadUnalignedPs rd ra imm8,
    .loadUnalignedPd rd ra imm8]

/-- The four stores of R116 from `rb` at a base and an offset. -/
def storesAt (rb : VReg) (ra : SReg) (imm8 : Byte) : List Instr :=
  [.storeUnalignedPi32 rb ra imm8, .storeUnalignedPi64 rb ra imm8, .storeUnalignedPs rb ra imm8,
    .storeUnalignedPd rb ra imm8]

/-- The kind of a load has no influence on what it does (R45). -/
theorem exec_of_mem_loadsAt {i : Instr} {rd : VReg} {ra : SReg} {imm8 : Byte} (hi : i ∈ loadsAt rd ra imm8)
    (s : State) : exec i s = loadVec s rd (effectiveAddress (readS s ra) imm8) := by
  simp only [loadsAt, List.mem_cons, List.not_mem_nil, or_false] at hi
  rcases hi with rfl | rfl | rfl | rfl <;> rfl

/-- The kind of a store has no influence on what it does (R45). -/
theorem exec_of_mem_storesAt {i : Instr} {rb : VReg} {ra : SReg} {imm8 : Byte} (hi : i ∈ storesAt rb ra imm8)
    (s : State) : exec i s = storeVec s (effectiveAddress (readS s ra) imm8) (readV s rb) := by
  simp only [storesAt, List.mem_cons, List.not_mem_nil, or_false] at hi
  rcases hi with rfl | rfl | rfl | rfl <;> rfl

/-- The two outcomes of R44's check exclude each other. -/
theorem not_outOfBounds {size : Nat} {ea : Word} (hin : ∀ k < 16, (ea.toNat + k) % 2 ^ 32 < size) :
    ¬∃ k < 16, size ≤ (ea.toNat + k) % 2 ^ 32 := by
  rintro ⟨k, hk, hle⟩
  exact (hin k hk).not_ge hle

theorem loadVec_of_inBounds {s : State} {ea : Word} (rd : VReg)
    (hin : ∀ k < 16, (ea.toNat + k) % 2 ^ 32 < s.params.memSize) :
    loadVec s rd ea = doneV (spendDraw s s.dmem (accessAddrs ea 16)) rd (loadValue s ea) :=
  ((loadVec_cases s rd ea).resolve_right fun h => not_outOfBounds hin h.1).2

theorem loadVec_of_outOfBounds {s : State} {ea : Word} (rd : VReg)
    (hout : ∃ k < 16, s.params.memSize ≤ (ea.toNat + k) % 2 ^ 32) :
    loadVec s rd ea = .next (raise s (.memAccessFault ea)) :=
  ((loadVec_cases s rd ea).resolve_left fun h => not_outOfBounds h.1 hout).2

theorem storeVec_of_inBounds {s : State} {ea : Word} (x : Vec)
    (hin : ∀ k < 16, (ea.toNat + k) % 2 ^ 32 < s.params.memSize) :
    storeVec s ea x = .next (advance (storeBytes s ea x)) :=
  ((storeVec_cases s ea x).resolve_right fun h => not_outOfBounds hin h.1).2

theorem storeVec_of_outOfBounds {s : State} {ea : Word} (x : Vec)
    (hout : ∃ k < 16, s.params.memSize ≤ (ea.toNat + k) % 2 ^ 32) :
    storeVec s ea x = .next (raise s (.memAccessFault ea)) :=
  ((storeVec_cases s ea x).resolve_left fun h => not_outOfBounds h.1 hout).2

/-- Sixteen written bytes are loaded as the value they are the bytes of (R45). -/
theorem loadValue_of_written {s : State} {ea : Word} {x : Vec}
    (h : ∀ k < 16, readCell s.dmem ((ea.toNat + k) % 2 ^ 32) = some (byteOf x k)) : loadValue s ea = x :=
  eq_of_bytes fun k hk => (byteOf_loadValue s ea hk).trans (seenByte_of_written .load s.draws (h k hk))

/-- Every kind of store, all its bytes in bounds, puts the bytes of its register at `ea` (R45, R116). It changes no
scalar register and no bound, so another access by the same base register has the same addresses. -/
theorem exec_store_of_inBounds {i : Instr} {s : State} {rb : VReg} {ra : SReg} {imm8 : Byte} {ea : Word}
    (hi : i ∈ storesAt rb ra imm8) (hea : effectiveAddress (readS s ra) imm8 = ea)
    (hin : ∀ k < 16, (ea.toNat + k) % 2 ^ 32 < s.params.memSize) :
    ∃ t, exec i s = .next t ∧ (∀ q, readS t q = readS s q) ∧ t.params = s.params ∧
      ∀ k < 16, readCell t.dmem ((ea.toNat + k) % 2 ^ 32) = some (byteOf (readV s rb) k) := by
  refine ⟨advance (storeBytes s ea (readV s rb)), ?_, fun q => ?_, ?_, fun k hk => ?_⟩
  · rw [exec_of_mem_storesAt hi, hea, storeVec_of_inBounds _ hin]
  · rw [readS_advance, readS_storeBytes]
  · rw [advance_params, storeBytes_params]
  · rw [advance_dmem, storeBytes_dmem, readCell_store s.dmem ea _ hk]

/-- Every kind of load, all its bytes in bounds and written, puts the value they are the bytes of into its register
(R45, R115). -/
theorem exec_load_of_written {j : Instr} {s : State} {rd : VReg} {ra : SReg} {imm8 : Byte} {ea : Word} {x : Vec}
    (hj : j ∈ loadsAt rd ra imm8) (hea : effectiveAddress (readS s ra) imm8 = ea)
    (hin : ∀ k < 16, (ea.toNat + k) % 2 ^ 32 < s.params.memSize)
    (h : ∀ k < 16, readCell s.dmem ((ea.toNat + k) % 2 ^ 32) = some (byteOf x k)) :
    ∃ u, exec j s = .next u ∧ readV u rd = x := by
  rw [exec_of_mem_loadsAt hj, hea, loadVec_of_inBounds rd hin, loadValue_of_written h]
  exact ⟨_, rfl, by rw [readV_advance, readV_writeV_self]⟩

/-- Settles O18: every kind of load and store makes R44's check before anything else. -/
theorem outOfBoundsAccessFaults : Obligations.OutOfBoundsAccessFaults := by
  intro s r ra imm8 i hi hout
  refine ⟨raise s (.memAccessFault (effectiveAddress (readS s ra) imm8)), ?_, raised_raise s _⟩
  have hi : i ∈ loadsAt r ra imm8 ++ storesAt r ra imm8 := hi
  rcases List.mem_append.1 hi with hload | hstore
  · rw [exec_of_mem_loadsAt hload, loadVec_of_outOfBounds r hout]
  · rw [exec_of_mem_storesAt hstore, storeVec_of_outOfBounds _ hout]

/-- Settles O19: the store completes and leaves the base register alone, so the load reads at the same address, where
it finds the sixteen bytes of the register. -/
theorem storeThenLoadReturnsTheRegister : Obligations.StoreThenLoadReturnsTheRegister := by
  intro s rd rb ra imm8 i hi j hj hin
  obtain ⟨t, hstore, hscalars, hparams, hbytes⟩ := exec_store_of_inBounds hi rfl hin
  obtain ⟨u, hload, hu⟩ := exec_load_of_written hj (by rw [hscalars]) (hparams ▸ hin) hbytes
  exact ⟨t, u, hstore, hbytes, hload, hu⟩

end Sys2Proof.Machine
end

section
namespace Sys2Proof.Machine

/-! ## The fetch (R43) -/

/-- Four bytes as a word, the byte at the lowest address in bits 7:0 (R43). -/
theorem wordOfBytes_eq_append (b0 b1 b2 b3 : Byte) : wordOfBytes [b0, b1, b2, b3] = b3 ++ b2 ++ b1 ++ b0 := by
  apply BitVec.eq_of_toNat_eq
  have h0 := b0.isLt
  have h1 := b1.isLt
  have h2 := b2.isLt
  have h3 := b3.isLt
  simp only [wordOfBytes, natOfBytes, BitVec.toNat_ofNat, BitVec.toNat_append]
  rw [← Nat.shiftLeft_add_eq_or_of_lt h0, ← Nat.shiftLeft_add_eq_or_of_lt h1, ← Nat.shiftLeft_add_eq_or_of_lt h2]
  simp only [Nat.shiftLeft_eq]
  omega

theorem fetchAddrs_eq (pc : Word) : fetchAddrs pc = [pc.toNat, pc.toNat + 1, pc.toNat + 2, pc.toNat + 3] := rfl

/-- A fetch of written bytes sees exactly them (R43). -/
theorem fetchWord_of_written {s : State} {b0 b1 b2 b3 : Byte} (h0 : readCell s.imem s.pc.toNat = some b0)
    (h1 : readCell s.imem (s.pc.toNat + 1) = some b1) (h2 : readCell s.imem (s.pc.toNat + 2) = some b2)
    (h3 : readCell s.imem (s.pc.toNat + 3) = some b3) : fetchWord s = b3 ++ b2 ++ b1 ++ b0 := by
  rw [← wordOfBytes_eq_append, fetchWord, fetchAddrs_eq]
  simp only [seenBytes, List.map_cons, List.map_nil, seenByte_of_written .fetch s.draws h0,
    seenByte_of_written .fetch s.draws h1, seenByte_of_written .fetch s.draws h2,
    seenByte_of_written .fetch s.draws h3]

/-- A fetch of written bytes spends no free value (log 4). -/
theorem afterFetch_of_written {s : State} (h : ∀ a ∈ fetchAddrs s.pc, (readCell s.imem a).isSome) :
    afterFetch s = s := by
  rw [afterFetch, spendDraw, if_pos (allWritten_iff.2 h)]

/-- A fetch changes nothing but the counter of free values (log 4). -/
theorem afterFetch_eq_with_draws (s : State) : ∃ n, afterFetch s = { s with draws := n } := by
  rw [afterFetch, spendDraw]
  split
  · exact ⟨s.draws, rfl⟩
  · exact ⟨s.draws + 1, rfl⟩

/-- A step whose fetch passes its two checks and whose word is legal executes the instruction (R344). -/
theorem step_of_decode {s : State} {i : Instr} (hrun : s.rs = .running) (halign : s.pc.toNat % 4 = 0)
    (hin : s.pc.toNat + 3 < s.params.imemSize) (hdec : decode (fetchWord s) = .ok i) :
    step s = exec i (afterFetch s) := by
  rcases step_cases hrun with ⟨hmis, -⟩ | ⟨-, hout, -⟩ | ⟨-, -, ⟨c, hc, -⟩ | ⟨j, hj, e⟩⟩
  · exact absurd halign hmis
  · exact absurd hin hout.not_gt
  · rw [hdec] at hc; cases hc
  · rw [hdec] at hj; cases hj; exact e

/-- Settles O4: the checks of the fetch pass, and the word at `pc` is read little-endian. -/
theorem stepRunsTheDecodedInstruction : Obligations.StepRunsTheDecodedInstruction := by
  intro s i hrun halign hin hdec
  refine ⟨step_of_decode hrun halign hin hdec, fun b3 b2 b1 b0 h0 h1 h2 h3 => ?_, afterFetch_eq_with_draws s⟩
  refine ⟨fetchWord_of_written h0 h1 h2 h3, afterFetch_of_written ?_⟩
  simp [fetchAddrs_eq, h0, h1, h2, h3]

end Sys2Proof.Machine
end

section
namespace Sys2Proof.Machine

/-! ## The invariant of the machine

Each named update of the state keeps it; a step and a host move are made of these updates. -/

/-! ### The bound of a memory (R41, R42) -/

theorem below_writeCell {m : Memory} {size a : Nat} (b : Byte) (h : Memory.Below m size) (ha : a < size) :
    Memory.Below (writeCell m a b) size := fun c hc => by
  rcases mem_writeCell hc with rfl | hc
  · exact ha
  · exact h c hc

theorem below_writeCells {m : Memory} {size : Nat} {cells : List Host.Cell} (h : Memory.Below m size)
    (hcells : ∀ c ∈ cells, c.1 < size) : Memory.Below (writeCells m cells) size := by
  induction cells generalizing m with
  | nil => exact h
  | cons c cells ih =>
    rw [List.forall_mem_cons] at hcells
    exact ih (below_writeCell c.2 h hcells.1) hcells.2

theorem below_filter {m : Memory} {size : Nat} (p : Host.Cell → Bool) (h : Memory.Below m size) :
    Memory.Below (m.filter p) size := fun c hc => h c (List.mem_of_mem_filter hc)

theorem storeCells_below {ea : Word} {size : Nat} (x : Vec) (hin : ∀ k < 16, (ea.toNat + k) % 2 ^ 32 < size) :
    ∀ c ∈ storeCells ea x, c.1 < size := by
  simpa [storeCells] using hin

/-- A byte range that the host port accepts lies inside the memory (R325). -/
theorem rangeCells_below {addr size : Nat} {bytes : List Byte} (h : rangeInside size addr bytes.length = true) :
    ∀ c ∈ rangeCells addr bytes, c.1 < size := by
  rintro ⟨a, b⟩ hc
  obtain ⟨k, hk, rfl⟩ := List.mem_map.1 (List.of_mem_zip hc).1
  have hlen : k < bytes.length := List.mem_range.1 hk
  have hsize : addr + bytes.length ≤ size := of_decide_eq_true h
  exact (Nat.add_lt_add_left hlen addr).trans_le hsize

/-! ### Updates that touch no field the invariant speaks of -/

variable {s t : State}

theorem inv_advance (h : s.Inv) : (advance s).Inv := { h with }

theorem inv_writeV (r : VReg) (x : Vec) (h : s.Inv) : (writeV s r x).Inv := { h with }

theorem inv_writeS (r : SReg) (x : Scalar) (h : s.Inv) : (writeS s r x).Inv := { h with }

theorem inv_writePc (x : Word) (h : s.Inv) : ({ s with pc := x } : State).Inv := { h with }

theorem inv_spendDraw (m : Memory) (addrs : List Nat) (h : s.Inv) : (spendDraw s m addrs).Inv := by
  unfold spendDraw
  split
  · exact h
  · exact { h with }

theorem inv_afterFetch (h : s.Inv) : (afterFetch s).Inv := inv_spendDraw s.imem _ h

/-! ### The run state and the fault record (R311, R312) -/

/-- Between HALTED and RUNNING the block passes with an empty fault record. -/
theorem inv_setRs {r : RunState} (h : s.Inv) (hs : s.rs ≠ .faulted) (hr : r ≠ .faulted) :
    ({ s with rs := r } : State).Inv :=
  { h with
    noFault := fun _ => h.noFault hs
    oneFault := fun e => absurd e hr }

theorem faultCode_bounds (f : ArchFault) : 1 ≤ (faultCode f).toNat ∧ (faultCode f).toNat ≤ 4 := by
  cases f <;> simp [faultCode]

/-- The fault primitive leaves one fault in the record. The two faults of the fetch must record `pc` in `FINFO`. -/
theorem inv_raise {f : ArchFault} (h : s.Inv) (hfetch : 3 ≤ (faultCode f).toNat → faultInfo f = s.pc) :
    (raise s f).Inv :=
  { h with
    noFault := fun hne => absurd rfl hne
    oneFault := fun _ => faultCode_bounds f
    fetchInfo := hfetch }

/-! ### The memories -/

/-- Data memory and the note of stores may change as long as the one stays in form and below its bound, and the other
names written bytes only. -/
theorem inv_setData {m : Memory} {stores : List Word} (h : s.Inv) (hform : Memory.wf m = true)
    (hbelow : Memory.Below m s.params.memSize)
    (hmade : ∀ ea ∈ stores, ∀ k < 16, (readCell m ((ea.toNat + k) % 2 ^ 32)).isSome = true) :
    ({ s with dmem := m, runStores := stores } : State).Inv :=
  { h with
    dataForm := hform
    dataBelow := hbelow
    storesMade := hmade }

/-- A store in bounds notes itself, and its bytes are written; the bytes of the stores noted before stay written. -/
theorem inv_storeBytes {ea : Word} (x : Vec) (h : s.Inv)
    (hin : ∀ k < 16, (ea.toNat + k) % 2 ^ 32 < s.params.memSize) : (storeBytes s ea x).Inv := by
  refine inv_setData h (wf_writeCells _ h.dataForm) (below_writeCells h.dataBelow (storeCells_below x hin)) ?_
  intro ea' hmem k hk
  rcases List.mem_cons.1 hmem with rfl | hold
  · rw [readCell_store s.dmem _ x hk, Option.isSome_some]
  · exact isSome_writeCells _ (h.storesMade ea' hold k hk)

/-- A host write inside data memory can only add written bytes. -/
theorem inv_writeData {addr : Nat} {bytes : List Byte} (h : s.Inv)
    (hin : rangeInside s.params.memSize addr bytes.length = true) :
    ({ s with dmem := writeCells s.dmem (rangeCells addr bytes) } : State).Inv :=
  inv_setData h (wf_writeCells _ h.dataForm) (below_writeCells h.dataBelow (rangeCells_below hin))
    fun ea hea k hk => isSome_writeCells _ (h.storesMade ea hea k hk)

theorem inv_writeInstr {addr : Nat} {bytes : List Byte} (h : s.Inv)
    (hin : rangeInside s.params.imemSize addr bytes.length = true) :
    ({ s with imem := writeCells s.imem (rangeCells addr bytes) } : State).Inv :=
  { h with
    instrForm := wf_writeCells _ h.instrForm
    instrBelow := below_writeCells h.instrBelow (rangeCells_below hin) }

/-! ### Instructions and steps -/

theorem inv_of_loadVec {rd : VReg} {ea : Word} (h : s.Inv) (e : loadVec s rd ea = .next t) : t.Inv := by
  rcases loadVec_cases s rd ea with ⟨-, e'⟩ | ⟨-, e'⟩
  · rw [e', doneV] at e; cases e
    exact inv_advance (inv_writeV rd _ (inv_spendDraw _ _ h))
  · rw [e'] at e; cases e
    exact inv_raise h (by simp [faultCode])

theorem inv_of_storeVec {ea : Word} {x : Vec} (h : s.Inv) (e : storeVec s ea x = .next t) : t.Inv := by
  rcases storeVec_cases s ea x with ⟨hin, e'⟩ | ⟨-, e'⟩
  · rw [e'] at e; cases e
    exact inv_advance (inv_storeBytes x h hin)
  · rw [e'] at e; cases e
    exact inv_raise h (by simp [faultCode])

/-- Every instruction keeps the invariant. A faulted block executes none, and `halt` needs that: it would leave HALTED
with a fault in the record. -/
theorem inv_of_exec {i : Instr} (h : s.Inv) (hs : s.rs ≠ .faulted) (e : exec i s = .next t) : t.Inv := by
  rcases exec_cases i s with ⟨-, rd, x, e'⟩ | ⟨-, rd, x, e'⟩ | ⟨-, rd, ea, e'⟩ | ⟨-, ea, x, e'⟩ | ⟨-, e'⟩
  · rw [e', doneV] at e; cases e
    exact inv_advance (inv_writeV rd x h)
  · rw [e', doneS] at e; cases e
    exact inv_advance (inv_writeS rd x h)
  · exact inv_of_loadVec h (e'.symm.trans e)
  · exact inv_of_storeVec h (e'.symm.trans e)
  · rw [e'] at e; cases e
    exact inv_advance (inv_setRs h hs nofun)

/-- A step of a running block keeps the invariant, whether it faults in the fetch, in decoding or executes (R313). -/
theorem inv_of_step_running (h : s.Inv) (hrun : s.rs = .running) (e : step s = .next t) : t.Inv := by
  rcases step_cases hrun with ⟨-, e'⟩ | ⟨-, -, e'⟩ | ⟨-, -, ⟨c, -, e'⟩ | ⟨i, -, e'⟩⟩
  · rw [e'] at e; cases e
    exact inv_raise h fun _ => rfl
  · rw [e'] at e; cases e
    exact inv_raise h fun _ => rfl
  · rw [e'] at e; cases e
    exact inv_raise (inv_afterFetch h) (by simp [faultCode])
  · exact inv_of_exec (inv_afterFetch h) (by simp [hrun]) (e'.symm.trans e)

/-! ### Host moves (R325, R326) -/

/-- A host write that is answered has its effect (I12). -/
theorem eq_of_hostWrite {s' : State} (e : hostWrite s s' = .next t) : t = s' := by
  unfold hostWrite at e
  split at e
  · cases e
  · cases e; rfl

theorem inv_start (h : s.Inv) (hs : s.rs = .halted) : ({ s with rs := .running, runStores := [] } : State).Inv :=
  { inv_setRs (r := .running) h (by simp [hs]) nofun with storesMade := nofun }

/-- A reset empties the fault record and the note of stores, and can only make data bytes unwritten (R326, log 13). -/
theorem inv_hostReset (h : s.Inv) : (hostReset s).Inv :=
  { h with
    dataForm := wf_hostReset h.dataForm
    dataBelow := by
      rw [hostReset_dmem, hostReset_params]
      split
      · exact below_filter _ h.dataBelow
      · exact h.dataBelow
    noFault := fun _ => ⟨rfl, rfl, rfl⟩
    oneFault := nofun
    fetchInfo := fun _ => rfl
    storesMade := nofun }

end Sys2Proof.Machine
end

section
namespace Sys2Proof.Machine

/-- Settles O11: a running block's step keeps the invariant, and a block that is not running does not step. -/
theorem everyStepKeepsTheInvariant : Obligations.EveryStepKeepsTheInvariant := by
  intro s t h e
  by_cases hrun : s.rs = .running
  · exact inv_of_step_running h hrun e
  · rw [step_of_not_running hrun] at e; cases e
    exact h

/-- Settles O59, move by move; a byte range that leaves the memory is turned away without an effect. -/
theorem hostMovesKeepTheInvariant : Obligations.HostMovesKeepTheInvariant := by
  intro m s t h e
  cases m with
  | writePc x => exact eq_of_hostWrite e ▸ inv_writePc x h
  | writeV r x => exact eq_of_hostWrite e ▸ inv_writeV r x h
  | writeS r x => exact eq_of_hostWrite e ▸ inv_writeS r x h
  | writeData addr bytes =>
    rw [eq_of_hostWrite e]
    split
    · exact inv_writeData h ‹_›
    · exact h
  | writeInstr addr bytes =>
    rw [eq_of_hostWrite e]
    split
    · exact inv_writeInstr h ‹_›
    · exact h
  | start =>
    simp only [hostMove] at e
    cases e
    split
    · exact inv_start h ‹_›
    · exact h
  | assertReset => cases e; exact inv_hostReset h

end Sys2Proof.Machine
end

section
namespace Sys2Proof

/-! ## Decoding an encoded instruction (R60, R61) -/

/-- A low byte that holds two registers gives both back. -/
theorem fieldsOf_wordOf_regPair (op : BitVec 8) (k k2 : BitVec 2) (rd ra rb rc re : Fin 16) :
    fieldsOf (wordOf op k k2 rd ra rb (regPair rc re)) =
      { op := op.toNat, k := k.toNat, k2 := k2.toNat, rd := rd, ra := ra, rb := rb, rc := rc, re := re,
        imm8 := regPair rc re } := by
  rw [fieldsOf_wordOf, regPair_rc, regPair_re]

theorem ifImm_of_inRange {inRange : Bool} (h : inRange = true) (i : Instr) : ifImm true inRange i = .ok i := by
  rw [h]; rfl

/-- With the fields of the written word put in, the decoder's table is read at constants. What is left depends on how the
format uses the low byte: two registers, an immediate whose range is the one well-formedness asks for, or neither. -/
theorem decode_encode {i : Instr} (h : i.WellFormed) : decode (encode i) = .ok i := by
  unfold decode
  cases i with unfold encode
  | setPi32 | setPs | setFromU32Pi32 | setFromU32Ps | setMaskPi32 | setMaskPs | mulAddPs | mulAddPd | choosePi32
  | choosePi64 | choosePs | choosePd | constrainPi32 | constrainPi64 | constrainPs | constrainPd =>
    rw [fieldsOf_wordOf_regPair]; rfl
  | getPi32 | getPi64 | getPs | getPd | setlanePi32 | setlanePi64 | setlanePs | setlanePd | shufflePi64 | shufflePd
  | slImmPi32 | slImmPi64 | srlImmPi32 | srlImmPi64 | sraImmPi32 | sraImmPi64 =>
    rw [fieldsOf_wordOf]; exact ifImm_of_inRange h _
  | _ => rw [fieldsOf_wordOf]; rfl

end Sys2Proof
end

section
namespace Sys2Proof

/-! ## Legal words (R66)

A row of the decoder's table is faithful if the instruction it answers encodes to the word that was read. Each format is
shown once to make a faithful row, from what its constructor encodes to; then the table is a list of such rows. -/

/-! ### The word as its fields -/

theorem toNat_two_bits (x : BitVec 2) : x.toNat = 0 ∨ x.toNat = 1 ∨ x.toNat = 2 ∨ x.toNat = 3 := by
  have := x.isLt
  omega

theorem fieldsOf_k_cases (w : Word) :
    (fieldsOf w).k = 0 ∨ (fieldsOf w).k = 1 ∨ (fieldsOf w).k = 2 ∨ (fieldsOf w).k = 3 :=
  toNat_two_bits _

theorem fieldsOf_k2_cases (w : Word) :
    (fieldsOf w).k2 = 0 ∨ (fieldsOf w).k2 = 1 ∨ (fieldsOf w).k2 = 2 ∨ (fieldsOf w).k2 = 3 :=
  toNat_two_bits _

/-- The word of an operation and its kinds, given as the decoder reads them. -/
abbrev rowWord (op k k2 : Nat) : Fin 16 → Fin 16 → Fin 16 → Byte → Word :=
  wordOf (.ofNat 8 op) (.ofNat 2 k) (.ofNat 2 k2)

theorem rowWord_fieldsOf (w : Word) :
    rowWord (fieldsOf w).op (fieldsOf w).k (fieldsOf w).k2 (fieldsOf w).rd (fieldsOf w).ra (fieldsOf w).rb
      (fieldsOf w).imm8 = w := by
  simp only [rowWord, fieldsOf, BitVec.ofNat_toNat, BitVec.setWidth_eq]
  exact wordOf_fields w

/-- The low byte of a word is its last two register fields (R61). -/
theorem regPair_fieldsOf (w : Word) : regPair (fieldsOf w).rc (fieldsOf w).re = (fieldsOf w).imm8 := by
  ext i hi
  rw [← BitVec.getLsbD_eq_getElem, ← BitVec.getLsbD_eq_getElem]
  simp only [fieldsOf, regPair, BitVec.ofFin_toFin, BitVec.getLsbD_append, BitVec.getLsbD_extractLsb']
  grind

/-! ### Faithful answers and rows -/

/-- An answer to the word `w` that is a refusal, or a well-formed instruction that encodes to `w`. -/
def Faithful (w : Word) (d : Decoded) : Prop := ∀ i, d = .ok i → encode i = w ∧ i.WellFormed

/-- An answer that is faithful to `w` if `w` has the operation and the kinds of the row. -/
def FaithfulRow (w : Word) (op k k2 : Nat) (d : Decoded) : Prop :=
  (fieldsOf w).op = op → (fieldsOf w).k = k → (fieldsOf w).k2 = k2 → Faithful w d

variable {w : Word} {op k k2 : Nat}

theorem faithful_error (e : IllegalCase) : Faithful w (.error e) := nofun

theorem faithfulRow_error (e : IllegalCase) : FaithfulRow w op k k2 (.error e) := fun _ _ _ => faithful_error e

theorem faithfulRow_noKind : FaithfulRow w op k k2 noKind := faithfulRow_error _

theorem faithfulRow_ok {i : Instr}
    (h : encode i = rowWord op k k2 (fieldsOf w).rd (fieldsOf w).ra (fieldsOf w).rb (fieldsOf w).imm8 ∧
      i.WellFormed) :
    FaithfulRow w op k k2 (.ok i) := by
  obtain ⟨henc, hwf⟩ := h
  rintro rfl rfl rfl _ ⟨⟩
  exact ⟨henc.trans (rowWord_fieldsOf w), hwf⟩

/-! ### The checks (R66 cases 3 and 4) -/

theorem faithfulRow_ifUnused {i : Instr} {unused : Bool} (h : unused = true → FaithfulRow w op k k2 (.ok i)) :
    FaithfulRow w op k k2 (ifUnused unused i) := by
  cases unused with
  | false => exact faithfulRow_error _
  | true => exact h rfl

theorem faithfulRow_ifImm {i : Instr} {unused inRange : Bool}
    (h : unused = true → inRange = true → FaithfulRow w op k k2 (.ok i)) :
    FaithfulRow w op k k2 (ifImm unused inRange i) := by
  cases unused with
  | false => exact faithfulRow_error _
  | true =>
    cases inRange with
    | false => exact faithfulRow_error _
    | true => exact h rfl rfl

/-! ### The formats (R62)

A field the format does not use was checked to be zero, and zero is what the encoder writes there. -/

theorem faithfulRow_fmtZ {c : Instr} (h : encode c = rowWord op k k2 0 0 0 0 ∧ c.WellFormed) :
    FaithfulRow w op k k2 (fmtZ (fieldsOf w) c) :=
  faithfulRow_ifUnused fun hzero => faithfulRow_ok (by
    simp only [Bool.and_eq_true, decide_eq_true_eq] at hzero
    obtain ⟨⟨⟨hrd, hra⟩, hrb⟩, himm⟩ := hzero
    rwa [hrd, hra, hrb, himm])

theorem faithfulRow_fmtV0 {c : VReg → Instr}
    (h : ∀ rd, encode (c rd) = rowWord op k k2 rd 0 0 0 ∧ (c rd).WellFormed) :
    FaithfulRow w op k k2 (fmtV0 (fieldsOf w) c) :=
  faithfulRow_ifUnused fun hzero => faithfulRow_ok (by
    simp only [Bool.and_eq_true, decide_eq_true_eq] at hzero
    obtain ⟨⟨hra, hrb⟩, himm⟩ := hzero
    rw [hra, hrb, himm]
    exact h _)

theorem faithfulRow_fmtRR {c : Fin 16 → Fin 16 → Instr}
    (h : ∀ rd ra, encode (c rd ra) = rowWord op k k2 rd ra 0 0 ∧ (c rd ra).WellFormed) :
    FaithfulRow w op k k2 (fmtRR (fieldsOf w) c) :=
  faithfulRow_ifUnused fun hzero => faithfulRow_ok (by
    simp only [Bool.and_eq_true, decide_eq_true_eq] at hzero
    obtain ⟨hrb, himm⟩ := hzero
    rw [hrb, himm]
    exact h _ _)

theorem faithfulRow_fmtRRR {c : Fin 16 → Fin 16 → Fin 16 → Instr}
    (h : ∀ rd ra rb, encode (c rd ra rb) = rowWord op k k2 rd ra rb 0 ∧ (c rd ra rb).WellFormed) :
    FaithfulRow w op k k2 (fmtRRR (fieldsOf w) c) :=
  faithfulRow_ifUnused fun himm => faithfulRow_ok (by rw [of_decide_eq_true himm]; exact h _ _ _)

theorem faithfulRow_fmtVVVV {c : VReg → VReg → VReg → VReg → Instr}
    (h : ∀ rd ra rb rc,
      encode (c rd ra rb rc) = rowWord op k k2 rd ra rb (regPair rc 0) ∧ (c rd ra rb rc).WellFormed) :
    FaithfulRow w op k k2 (fmtVVVV (fieldsOf w) c) :=
  faithfulRow_ifUnused fun hre => faithfulRow_ok (by
    rw [← regPair_fieldsOf, of_decide_eq_true hre]; exact h _ _ _ _)

theorem faithfulRow_fmtVS4 {c : VReg → SReg → SReg → SReg → SReg → Instr}
    (h : ∀ rd ra rb rc re,
      encode (c rd ra rb rc re) = rowWord op k k2 rd ra rb (regPair rc re) ∧ (c rd ra rb rc re).WellFormed) :
    FaithfulRow w op k k2 (fmtVS4 (fieldsOf w) c) :=
  faithfulRow_ok (by rw [← regPair_fieldsOf]; exact h _ _ _ _ _)

theorem faithfulRow_fmtRRI {inRange : Byte → Bool} {c : Fin 16 → Fin 16 → Byte → Instr}
    (h : ∀ rd ra imm8,
      encode (c rd ra imm8) = rowWord op k k2 rd ra 0 imm8 ∧ (c rd ra imm8).wellFormed = inRange imm8) :
    FaithfulRow w op k k2 (fmtRRI (fieldsOf w) inRange c) :=
  faithfulRow_ifImm fun hrb himm => faithfulRow_ok (by
    rw [of_decide_eq_true hrb, Instr.WellFormed, ← himm]; exact h _ _ _)

theorem faithfulRow_fmtVVSI {inRange : Byte → Bool} {c : VReg → VReg → SReg → Byte → Instr}
    (h : ∀ rd ra rb imm8,
      encode (c rd ra rb imm8) = rowWord op k k2 rd ra rb imm8 ∧ (c rd ra rb imm8).wellFormed = inRange imm8) :
    FaithfulRow w op k k2 (fmtVVSI (fieldsOf w) inRange c) :=
  faithfulRow_ifImm fun _ himm => faithfulRow_ok (by rw [Instr.WellFormed, ← himm]; exact h _ _ _ _)

theorem faithfulRow_fmtST {c : VReg → SReg → Byte → Instr}
    (h : ∀ rb ra imm8, encode (c rb ra imm8) = rowWord op k k2 0 ra rb imm8 ∧ (c rb ra imm8).WellFormed) :
    FaithfulRow w op k k2 (fmtST (fieldsOf w) c) :=
  faithfulRow_ifUnused fun hrd => faithfulRow_ok (by rw [of_decide_eq_true hrd]; exact h _ _ _)

/-- One type pair of `sbitcast`, `n` being its code in `imm8` (R133). -/
theorem faithfulRow_typePair {i : Instr} {n : Nat} (hrb : (fieldsOf w).rb = 0) (himm : (fieldsOf w).imm8.toNat = n)
    (h : encode i = rowWord op k k2 (fieldsOf w).rd (fieldsOf w).ra 0 (.ofNat 8 n) ∧ i.WellFormed) :
    FaithfulRow w op k k2 (.ok i) :=
  faithfulRow_ok (by rwa [← himm, BitVec.ofNat_toNat, BitVec.setWidth_eq, ← hrb] at h)

theorem faithful_fmtSS (hop : (fieldsOf w).op = 0x22) : Faithful w (fmtSS (fieldsOf w)) := by
  by_cases hkinds : (fieldsOf w).k ≠ 0 ∨ (fieldsOf w).k2 ≠ 0
  · rw [fmtSS, if_pos hkinds]
    exact faithful_error _
  by_cases hrb : (fieldsOf w).rb = 0
  · obtain ⟨hk, hk2⟩ : (fieldsOf w).k = 0 ∧ (fieldsOf w).k2 = 0 := by simpa using hkinds
    rw [fmtSS, if_neg hkinds, if_neg (not_not.2 hrb)]
    split
    case h_13 => exact faithful_error _
    all_goals exact faithfulRow_typePair hrb ‹_› ⟨rfl, rfl⟩ hop hk hk2
  · rw [fmtSS, if_neg hkinds, if_pos hrb]
    exact faithful_error _

/-! ### The kinds (R63, R66 case 2) -/

theorem faithful_byKind {pi32 pi64 ps pd : Decoded} (hop : (fieldsOf w).op = op)
    (hpi32 : FaithfulRow w op 0 0 pi32) (hpi64 : FaithfulRow w op 1 0 pi64) (hps : FaithfulRow w op 2 0 ps)
    (hpd : FaithfulRow w op 3 0 pd) : Faithful w (byKind (fieldsOf w) pi32 pi64 ps pd) := by
  by_cases hk2 : (fieldsOf w).k2 = 0
  · rw [byKind, if_neg (not_not.2 hk2)]
    obtain hk | hk | hk | hk := fieldsOf_k_cases w <;> rw [hk]
    · exact hpi32 hop hk hk2
    · exact hpi64 hop hk hk2
    · exact hps hop hk hk2
    · exact hpd hop hk hk2
  · rw [byKind, if_pos hk2]
    exact faithful_error _

theorem faithful_byPair {pi32 pi64 ps pd : Nat → Decoded} (hop : (fieldsOf w).op = op)
    (hpi32 : FaithfulRow w op 0 (fieldsOf w).k2 (pi32 (fieldsOf w).k2))
    (hpi64 : FaithfulRow w op 1 (fieldsOf w).k2 (pi64 (fieldsOf w).k2))
    (hps : FaithfulRow w op 2 (fieldsOf w).k2 (ps (fieldsOf w).k2))
    (hpd : FaithfulRow w op 3 (fieldsOf w).k2 (pd (fieldsOf w).k2)) :
    Faithful w (byPair (fieldsOf w) pi32 pi64 ps pd) := by
  unfold byPair
  obtain hk | hk | hk | hk := fieldsOf_k_cases w <;> rw [hk]
  · exact hpi32 hop hk rfl
  · exact hpi64 hop hk rfl
  · exact hps hop hk rfl
  · exact hpd hop hk rfl

theorem faithfulRow_toKind {pi32 pi64 ps pd : Decoded} (hpi32 : FaithfulRow w op k 0 pi32)
    (hpi64 : FaithfulRow w op k 1 pi64) (hps : FaithfulRow w op k 2 ps) (hpd : FaithfulRow w op k 3 pd) :
    FaithfulRow w op k (fieldsOf w).k2 (toKind pi32 pi64 ps pd (fieldsOf w).k2) := by
  intro hop hk _
  obtain hk2 | hk2 | hk2 | hk2 := fieldsOf_k2_cases w <;> rw [hk2]
  · exact hpi32 hop hk hk2
  · exact hpi64 hop hk hk2
  · exact hps hop hk hk2
  · exact hpd hop hk hk2

/-! ### The table (R65) -/

/-- Every opcode has one kind, two kinds, or the type pair of `sbitcast`, or it is unassigned; each of its rows is refused
or has one of the formats. The rules are told apart by the head symbol alone, so no step tries to unfold a format. -/
theorem decode_faithful (w : Word) : Faithful w (decode w) := by
  dsimp only [decode]
  split
  all_goals with_reducible first
    | refine faithful_byKind ‹_› ?_ ?_ ?_ ?_
    | refine faithful_byPair ‹_› ?_ ?_ ?_ ?_ <;> refine faithfulRow_toKind ?_ ?_ ?_ ?_
    | exact faithful_fmtSS ‹_›
    | exact faithful_error _
  all_goals with_reducible first
    | exact faithfulRow_noKind
    | refine faithfulRow_fmtZ ?_
    | refine faithfulRow_fmtV0 ?_
    | refine faithfulRow_fmtRR ?_
    | refine faithfulRow_fmtRRR ?_
    | refine faithfulRow_fmtVVVV ?_
    | refine faithfulRow_fmtVS4 ?_
    | refine faithfulRow_fmtRRI ?_
    | refine faithfulRow_fmtVVSI ?_
    | refine faithfulRow_fmtST ?_
  all_goals intros; exact ⟨rfl, rfl⟩

end Sys2Proof
end

section
namespace Sys2Proof.Machine

/-- Settles O1: the decoder reads back the fields the encoder wrote, and the range check of `imm8` is well-formedness. -/
theorem decodeEncodeRoundTrip : Obligations.DecodeEncodeRoundTrip := fun _ h => decode_encode h

/-- Settles O2: every row of the decoder's table answers an instruction of the word it was read from. -/
theorem legalWordsAreExactlyTheEncodings : Obligations.LegalWordsAreExactlyTheEncodings := decode_faithful

/-- Settles O3 by running the decoder on the eleven words. -/
theorem specWordsDecode : Obligations.SpecWordsDecode := by
  unfold Obligations.SpecWordsDecode
  decide

end Sys2Proof.Machine
end

section
namespace Sys2Proof.Machine

/-! ## Loads and stores in bounds (R110, R115, R116) -/

/-- Drawing a free value changes nothing but the counter of the model (log 4). -/
theorem spendDraw_eq_with_draws (s : State) (m : Memory) (addrs : List Nat) :
    ∃ n, spendDraw s m addrs = { s with draws := n } := by
  unfold spendDraw
  split
  · exact ⟨s.draws, rfl⟩
  · exact ⟨s.draws + 1, rfl⟩

/-- A write of one vector register after a free value was drawn has the frame of the write alone: no frame speaks of the
counter. -/
theorem onlyV_spendDraw (s : State) (m : Memory) (addrs : List Nat) (rd : VReg) (x : Vec) :
    OnlyV s (advance (writeV (spendDraw s m addrs) rd x)) rd := by
  obtain ⟨n, hn⟩ := spendDraw_eq_with_draws s m addrs
  rw [hn]
  exact { onlyV_doneV { s with draws := n } rd x with }

/-- An access to written bytes spends no free value (log 4). -/
theorem spendDraw_of_written {s : State} {ea : Word}
    (h : ∀ k < 16, (readCell s.dmem ((ea.toNat + k) % 2 ^ 32)).isSome) :
    spendDraw s s.dmem (accessAddrs ea 16) = s := by
  refine if_pos (allWritten_iff.2 fun a ha => ?_)
  obtain ⟨k, hk, rfl⟩ := mem_accessAddrs.1 ha
  exact h k hk

/-- Settles O16: the check of R44 passes, and byte `k` of the value written to `rd` is the byte seen at `EA + k`. -/
theorem loadReadsSixteenBytes : Obligations.LoadReadsSixteenBytes := by
  intro s rd ra imm8 i hi hin
  have hload := (exec_of_mem_loadsAt hi s).trans (loadVec_of_inBounds rd hin)
  generalize effectiveAddress (readS s ra) imm8 = ea at hload ⊢
  refine ⟨_, hload, onlyV_spendDraw s _ _ rd _, fun k hk b hb => ?_, fun hwritten => ?_⟩
  · rw [readV_advance, readV_writeV_self]
    exact (byteOf_loadValue s ea hk).trans (seenByte_of_written .load s.draws hb)
  · rw [advance_draws, writeV_draws, spendDraw_of_written hwritten]

/-- Settles O17: the check of R44 passes, the sixteen cells of the store are written, and no other part of the state but
`pc` and the note of the store is touched. -/
theorem storeWritesSixteenBytes : Obligations.StoreWritesSixteenBytes := by
  intro s rb ra imm8 i hi hin
  have hstore := (exec_of_mem_storesAt hi s).trans (storeVec_of_inBounds (readV s rb) hin)
  generalize effectiveAddress (readS s ra) imm8 = ea at hstore ⊢
  refine ⟨_, hstore, fun k hk => ?_, fun a ha => ?_, ?_⟩
  · rw [advance_dmem, storeBytes_dmem]
    exact readCell_store s.dmem ea _ hk
  · rw [advance_dmem, storeBytes_dmem]
    exact readCell_store_of_outside s.dmem ea _ ha
  · simp [BitVec.toNat_add]

/-! ### The effective address (R110) -/

/-- A 32-bit scalar operand ignores bits 63:32 of its register (R24). -/
theorem toNat_low32 (x : Scalar) : (low32 x).toNat = x.toNat % 2 ^ 32 := by
  rw [low32, BitVec.extractLsb'_toNat, Nat.shiftRight_zero]

/-- The offset as a word is the signed immediate modulo 2^32. -/
theorem toNat_signExtend32 (imm8 : Byte) : ((imm8.signExtend 32).toNat : ℤ) = imm8.toInt % 2 ^ 32 := by
  rw [BitVec.signExtend, BitVec.toNat_ofInt]
  exact Int.toNat_of_nonneg (Int.emod_nonneg _ (by decide))

/-- Settles O15: addition of words is addition modulo 2^32. -/
theorem effectiveAddressIsBasePlusOffset : Obligations.EffectiveAddressIsBasePlusOffset := by
  intro base imm8
  rw [effectiveAddress, BitVec.toNat_add, toNat_low32, Int.natCast_emod, Int.natCast_add, toNat_signExtend32]
  exact Int.add_emod_emod _ _ _

end Sys2Proof.Machine
end

section
namespace Sys2Proof.Machine

/-! ## halt, set, get, setlane and debug equality (R100 to R109, R117)

The kind of an instruction says how wide its lanes are and how a scalar is extended, and nothing else, so the
instructions of one lane width are treated as one. -/

/-- Instructions that all write `x` to `v[rd]` complete with what holds of `x`. -/
theorem completesV_of_forall {is : List Instr} {s : State} {rd : VReg} {x : Vec} {P : Vec → Prop}
    (h : is.Forall fun i => exec i s = doneV s rd x) (hP : P x) : ∀ i ∈ is, CompletesV i s rd P := fun i hi =>
  completesV_of_doneV (List.forall_iff_forall_mem.1 h i hi) hP

/-- Instructions that all write `x` to `s[rd]` complete with what holds of `x`. -/
theorem completesS_of_forall {is : List Instr} {s : State} {rd : SReg} {x : Scalar} {P : Scalar → Prop}
    (h : is.Forall fun i => exec i s = doneS s rd x) (hP : P x) : ∀ i ∈ is, CompletesS i s rd P := fun i hi =>
  completesS_of_doneS (List.forall_iff_forall_mem.1 h i hi) hP

/-- Settles O8: `halt` writes `RS` and advances `pc`; every other field is the same by definition. -/
theorem haltEndsTheRun : Obligations.HaltEndsTheRun := fun s =>
  ⟨advance { s with rs := .halted }, rfl, rfl, toNat_advance_pc _, fun _ => rfl, fun _ => rfl, rfl, rfl, rfl,
    fun _ => rfl, fun _ => rfl, rfl, rfl, rfl⟩

/-! ### setzero, set1, set and set_from (R101 to R104) -/

theorem lanes32_lanes32 {P : Nat → BitVec 32 → Prop} {f : Nat → BitVec 32} (h : ∀ j < 4, P j (f j)) :
    Lanes32 P (lanes32 f) := fun j hj => by
  rw [lane_lanes32 f hj]; exact h j hj

theorem lanes64_lanes64 {P : Nat → BitVec 64 → Prop} {f : Nat → BitVec 64} (h : ∀ j < 2, P j (f j)) :
    Lanes64 P (lanes64 f) := fun j hj => by
  rw [lane_lanes64 f hj]; exact h j hj

/-- Settles O20: the value written is zero, or the scalar in every lane. -/
theorem setzeroAndSet1 : Obligations.SetzeroAndSet1 := by
  intro s rd ra
  refine ⟨?_, ?_, ?_⟩
  · exact completesV_of_forall ⟨rfl, rfl, rfl, rfl⟩ rfl
  · exact completesV_of_forall ⟨rfl, rfl⟩ (lanes32_lanes32 fun _ _ => toNat_low32 _)
  · exact completesV_of_forall ⟨rfl, rfl⟩ (lanes64_lanes64 fun _ _ => rfl)

/-- Settles O21: the operands are packed high lane first. -/
theorem setBuildsLanesHighToLow : Obligations.SetBuildsLanesHighToLow := by
  intro s rd ra rb rc re
  refine ⟨completesV_of_forall ⟨rfl, rfl, rfl, rfl⟩ ?_, completesV_of_forall ⟨rfl, rfl, rfl, rfl⟩ ?_⟩
  · simp only [lane32_pack32_3, lane32_pack32_2, lane32_pack32_1, lane32_pack32_0, toNat_low32, and_self]
  · exact ⟨lane64_pack64_1 .., lane64_pack64_0 ..⟩

/-! ### set_mask (R105) -/

theorem truthLane_maskOf (W : Nat) (s : State) (r : SReg) : TruthLane (readS s r ≠ 0) (maskOf W s r) :=
  truthLane_maskLane decide_eq_true_iff

theorem isMaskLane_maskOf (W : Nat) (s : State) (r : SReg) : isMaskLane (maskOf W s r) = true := isMaskLane_maskLane W _

theorem isMask32_pack32 (a b c d : BitVec 32) :
    isMask32 (pack32 a b c d) = (isMaskLane d && isMaskLane c && isMaskLane b && isMaskLane a) := by
  simp [isMask32, List.range_succ, Bool.and_assoc]

theorem isMask64_pack64 (a b : BitVec 64) : isMask64 (pack64 a b) = (isMaskLane b && isMaskLane a) := by
  simp [isMask64, List.range_succ]

/-- Settles O22: each lane is the mask lane of its scalar's truth value, and a value of mask lanes is a valid mask. -/
theorem setMaskBuildsAValidMask : Obligations.SetMaskBuildsAValidMask := by
  intro s rd ra rb rc re
  refine ⟨completesV_of_forall ⟨rfl, rfl⟩ ?_, completesV_of_forall ⟨rfl, rfl⟩ ?_⟩
  · simp only [lane32_pack32_3, lane32_pack32_2, lane32_pack32_1, lane32_pack32_0, truthLane_maskOf, true_and]
    simp only [isMask32_pack32, isMaskLane_maskOf, Bool.and_self]
  · simp only [lane64_pack64_1, lane64_pack64_0, truthLane_maskOf, true_and]
    simp only [isMask64_pack64, isMaskLane_maskOf, Bool.and_self]

/-! ### get and setlane (R106 to R108) -/

theorem toInt_sext64 (x : BitVec 32) : (sext64 x).toInt = x.toInt := BitVec.toInt_signExtend_of_le (by decide)

theorem toNat_zext64 (x : BitVec 32) : (zext64 x).toNat = x.toNat := BitVec.toNat_setWidth_of_le (by decide)

/-- Settles O23: sign extension keeps the signed number, zero extension the unsigned one. -/
theorem getExtractsALane : Obligations.GetExtractsALane := by
  intro s rd ra imm8
  refine ⟨fun _ => ⟨?_, ?_⟩, fun _ => ⟨?_, ?_⟩⟩
  · exact completesS_of_doneS rfl (toInt_sext64 _)
  · exact completesS_of_doneS rfl (toNat_zext64 _)
  · exact completesS_of_doneS rfl rfl
  · exact completesS_of_doneS rfl rfl

theorem lane_setLane32_self (x : Vec) {i : Nat} (y : BitVec 32) (hi : i < 4) : lane 32 (setLane32 x i y) i = y := by
  rw [lane_setLane32 x i y hi, if_pos rfl]

theorem lane_setLane32_of_ne (x : Vec) {i j : Nat} (y : BitVec 32) (hj : j < 4) (hne : j ≠ i) :
    lane 32 (setLane32 x i y) j = lane 32 x j := by
  rw [lane_setLane32 x i y hj, if_neg hne]

theorem lane_setLane64_self (x : Vec) {i : Nat} (y : BitVec 64) (hi : i < 2) : lane 64 (setLane64 x i y) i = y := by
  rw [lane_setLane64 x i y hi, if_pos rfl]

theorem lane_setLane64_of_ne (x : Vec) {i j : Nat} (y : BitVec 64) (hj : j < 2) (hne : j ≠ i) :
    lane 64 (setLane64 x i y) j = lane 64 x j := by
  rw [lane_setLane64 x i y hj, if_neg hne]

/-- Settles O24: the indexed lane is the scalar's low bits, every other lane is that of `v[ra]`. -/
theorem setlaneReplacesOneLane : Obligations.SetlaneReplacesOneLane := by
  intro s rd ra rb imm8
  refine ⟨fun _ => completesV_of_forall ⟨rfl, rfl⟩ fun j hj => ⟨?_, lane_setLane32_of_ne _ _ hj⟩,
    fun _ => completesV_of_forall ⟨rfl, rfl⟩ fun j hj => ⟨?_, lane_setLane64_of_ne _ _ hj⟩⟩
  · rintro rfl
    rw [lane_setLane32_self _ _ hj, toNat_low32]
  · rintro rfl
    exact lane_setLane64_self _ _ hj

/-! ### get and set are inverse (R109) -/

/-- A value written to `v[rd]` is what a following instruction reads there to fill a scalar register. -/
theorem exec_doneV_then_doneS {i j : Instr} {s : State} {rd : VReg} {rq : SReg} {x : Vec} {y : Scalar}
    (f : Vec → Scalar) (hi : exec i s = doneV s rd x) (hj : ∀ t, exec j t = doneS t rq (f (readV t rd)))
    (hy : f x = y) : ∃ t u, exec i s = .next t ∧ exec j t = .next u ∧ readS u rq = y := by
  refine ⟨_, _, hi, hj _, ?_⟩
  rw [readS_advance, readS_writeS_self, readV_advance, readV_writeV_self, hy]

/-- The low bits of a sign-extended lane are the lane. -/
theorem low32_signExtend (x : BitVec 32) : low32 (x.signExtend 64) = x := by
  rw [low32, ← BitVec.setWidth_eq_extractLsb' (by decide)]
  ext i hi
  rw [BitVec.getElem_setWidth, BitVec.getLsbD_signExtend, if_pos hi, decide_eq_true (by omega), Bool.true_and,
    BitVec.getLsbD_eq_getElem]

/-- The low bits of a zero-extended lane are the lane. -/
theorem low32_setWidth (x : BitVec 32) : low32 (x.setWidth 64) = x := by
  rw [low32, ← BitVec.setWidth_eq_extractLsb' (by decide), BitVec.setWidth_setWidth_of_le x (by decide),
    BitVec.setWidth_eq]

/-- Settles O25: `get` reads the lane `setlane` wrote; the low bits of an extended lane are the lane, and the lanes packed
again are the register. -/
theorem getAndSetAreInverse : Obligations.GetAndSetAreInverse := by
  intro s rd ra q rb rq a3 a2 a1 a0 imm8
  refine ⟨fun hlane => ⟨?_, ?_⟩, fun hlane => ⟨?_, ?_⟩, fun h3 h2 h1 h0 => ?_, fun h3 h2 h1 h0 => ?_,
    fun h1 h0 => ?_⟩
  · exact exec_doneV_then_doneS (fun x => sext64 (lane 32 x imm8.toNat)) rfl (fun _ => rfl)
      (congrArg sext64 (lane_setLane32_self _ _ hlane))
  · exact exec_doneV_then_doneS (fun x => zext64 (lane 32 x imm8.toNat)) rfl (fun _ => rfl)
      (congrArg zext64 (lane_setLane32_self _ _ hlane))
  · exact exec_doneV_then_doneS (fun x => lane 64 x imm8.toNat) rfl (fun _ => rfl)
      (lane_setLane64_self _ _ hlane)
  · exact exec_doneV_then_doneS (fun x => lane 64 x imm8.toNat) rfl (fun _ => rfl)
      (lane_setLane64_self _ _ hlane)
  · exact completesV_of_doneV rfl (by simp only [h3, h2, h1, h0, low32_signExtend, pack32_lanes])
  · exact completesV_of_doneV rfl (by simp only [h3, h2, h1, h0, low32_setWidth, pack32_lanes])
  · exact completesV_of_forall ⟨rfl, rfl⟩ (by simp only [h1, h0, pack64_lanes])

/-! ### debug_eq (R117) -/

/-- Settles O26: the result is the truth value of the equality of all 128 bits. -/
theorem debugEqComparesAllBits : Obligations.DebugEqComparesAllBits := by
  intro s rd ra rb
  refine completesS_of_forall ⟨rfl, rfl, rfl, rfl⟩ ⟨fun heq => ?_, fun hne => ?_⟩
  · rw [heq, beq_self_eq_true]; rfl
  · rw [beq_eq_false_iff_ne.2 hne]; rfl

end Sys2Proof.Machine
end

section
namespace Sys2Proof.Machine

/-! ## Bitcasts (R130, R131, R133, R242)

The kinds of a vector or mask bitcast change nothing in the result, so all of them write the value read. Of a scalar
bitcast only the width and the result type matter: the `<from>` type changes nothing (R133). -/

/-- Settles O27: each of the 28 instructions writes `v[ra]` itself, and the lanes of the two widths are views of the same
bits. -/
theorem bitcastsCopyAllBits : Obligations.BitcastsCopyAllBits := by
  refine ⟨fun s rd ra => completesV_of_forall (x := readV s ra) ?copies rfl, fun x j _ => lane64_eq_append x j⟩
  case copies => and_intros <;> rfl

/-- Zero extension of a 32-bit scalar operand leaves the register's number modulo 2^32. -/
theorem toNat_zext64_low32 (x : Scalar) : (zext64 (low32 x)).toNat = x.toNat % 2 ^ 32 :=
  (toNat_zext64 _).trans (toNat_low32 x)

/-- Settles O28: sign extension keeps the signed number of the low bits, zero extension the unsigned one, and a 64-bit
pair copies the register. -/
theorem scalarBitcastsCopyTheLowBits : Obligations.ScalarBitcastsCopyTheLowBits := by
  intro s rd ra
  refine ⟨?toSigned, ?toUnsignedOrFloat, ?wide⟩
  case toSigned => exact completesS_of_forall ⟨rfl, rfl⟩ (toInt_sext64 (low32 (readS s ra)))
  case toUnsignedOrFloat => exact completesS_of_forall ⟨rfl, rfl, rfl, rfl⟩ (toNat_zext64_low32 (readS s ra))
  case wide => exact completesS_of_forall ⟨rfl, rfl, rfl, rfl, rfl, rfl⟩ rfl

end Sys2Proof.Machine
end

section
namespace Sys2Proof.Machine

/-! ## Lane shuffles (R140, R141, R142)

Selector `i` is a bit field of the immediate (R64); as a number it is a digit of `imm8`, to base 4 for the 4-lane kinds
and to base 2 for the 2-lane kinds. -/

/-- Selector `i` of a 4-lane shuffle is the base-4 digit `i` of the immediate: `(imm8 >> 2i) & 3` (R141). -/
theorem selector4_eq_digit (imm8 : Byte) (i : Nat) : selector4 imm8 i = imm8.toNat / 4 ^ i % 4 := by
  simp only [selector4, BitVec.extractLsb'_toNat, Nat.shiftRight_eq_div_pow, pow_mul, Nat.reducePow]

/-- Selector `i` of a 2-lane shuffle is the binary digit `i` of the immediate: `(imm8 >> i) & 1` (R142). -/
theorem selector2_eq_digit (imm8 : Byte) (i : Nat) : selector2 imm8 i = imm8.toNat / 2 ^ i % 2 := by
  rw [selector2, BitVec.extractLsb'_toNat, Nat.shiftRight_eq_div_pow, pow_one]

/-- Settles O29: both kinds of one lane count write the same lanes, each read at the digit its selector is. The bound on
a 2-lane selector is the decoder's (R64): the lanes written are those of the rule for every immediate. -/
theorem shuffleSelectsLanes : Obligations.ShuffleSelectsLanes := by
  intro s rd ra imm8
  refine ⟨?fourLanes, fun _ => ?twoLanes⟩
  case fourLanes =>
    exact completesV_of_forall ⟨rfl, rfl⟩
      (lanes32_lanes32 fun j _ => congrArg (v32 s ra) (selector4_eq_digit imm8 j))
  case twoLanes =>
    exact completesV_of_forall ⟨rfl, rfl⟩
      (lanes64_lanes64 fun j _ => congrArg (v64 s ra) (selector2_eq_digit imm8 j))

end Sys2Proof.Machine
end

section
namespace Sys2Proof.Machine

/-! ## The NEON shuffle table (R145, R146, R160 to R162)

A micro-operation only moves lanes, so an entry of the table commutes with any function applied to every lane. It is
therefore enough to run each entry once, on the numbers of the lanes: where the numbers end up, the lanes of every
source value end up too. This is the symbolic source of R162. -/

/-- `g` applied to every lane. -/
def Quad.map {α β : Type} (g : α → β) (a : Quad α) : Quad β := ⟨g a.l0, g a.l1, g a.l2, g a.l3⟩

section
variable {α β : Type} (g : α → β)

@[simp] theorem Quad.map_mk (a b c d : α) : (Quad.mk a b c d).map g = ⟨g a, g b, g c, g d⟩ := rfl

@[simp] theorem Quad.l0_map (a : Quad α) : (a.map g).l0 = g a.l0 := rfl

@[simp] theorem Quad.l1_map (a : Quad α) : (a.map g).l1 = g a.l1 := rfl

@[simp] theorem Quad.l2_map (a : Quad α) : (a.map g).l2 = g a.l2 := rfl

@[simp] theorem Quad.l3_map (a : Quad α) : (a.map g).l3 = g a.l3 := rfl

@[simp] theorem Quad.lane_map (a : Quad α) (n : Nat) : (a.map g).lane n = g (a.lane n) :=
  match n with
  | 0 | 1 | 2 | _ + 3 => rfl

@[simp] theorem Quad.replace_map (a : Quad α) (d : Nat) (y : α) :
    (a.map g).replace d (g y) = (a.replace d y).map g :=
  match d with
  | 0 | 1 | 2 | _ + 3 => rfl

@[simp] theorem Quad.laneOfTwo_map (a b : Quad α) (n : Nat) :
    (a.map g).laneOfTwo (b.map g) n = g (a.laneOfTwo b n) := by
  simp only [Quad.laneOfTwo, Quad.lane_map, apply_ite g]

@[simp] theorem MicroSrc.value_map (x : Quad α) (ts : List (Quad α)) (a : MicroSrc) :
    a.value (x.map g) (ts.map (Quad.map g)) = (a.value x ts).map g := by
  cases a with
  | x => rfl
  | t1 => exact List.getD_map ..
  | t2 => exact List.getD_map ..

/-- A micro-operation commutes with a function applied to every lane: its result is made of lanes of its operands. -/
theorem MicroOp.result_map (x : Quad α) (ts : List (Quad α)) (op : MicroOp) :
    op.result (x.map g) (ts.map (Quad.map g)) = (op.result x ts).map g := by
  cases op with
  | copy a d b j => simp only [MicroOp.result, MicroSrc.value_map, Quad.lane_map, Quad.replace_map]
  | dup a n => simp only [MicroOp.result, MicroSrc.value_map, Quad.lane_map, Quad.map_mk]
  | ext a b n => simp only [MicroOp.result, MicroSrc.value_map, Quad.laneOfTwo_map, Quad.map_mk]
  | _ => simp [MicroOp.result]

/-- So does a whole entry. -/
theorem runEntry_map (x : Quad α) (ts : List (Quad α)) (ops : List MicroOp) :
    runEntry (x.map g) (ts.map (Quad.map g)) ops = (runEntry x ts ops).map g := by
  induction ops generalizing ts with
  | nil => simp [runEntry, List.getLastD_eq_getLast?, List.getLast?_map, Option.getD_map]
  | cons op ops ih => rw [runEntry, runEntry, MicroOp.result_map, ← ih, List.map_append, List.map_singleton]

end

/-- The source whose lane `n` is the number `n`: the symbolic source of R162. -/
def laneNumbers : Quad Nat := ⟨0, 1, 2, 3⟩

/-- The source lanes that selector `n` names, lane 0 first: its digits to base 4 (R140). -/
def selectedLanes (n : Nat) : Quad Nat := ⟨n / 4 ^ 0 % 4, n / 4 ^ 1 % 4, n / 4 ^ 2 % 4, n / 4 ^ 3 % 4⟩

/-- The evaluation of R162: run on the lane numbers, the entries are the selected lanes of 0 .. 255, in order. -/
theorem map_runEntry_neonTable : neonTable.map (runEntry laneNumbers []) = (List.range 256).map selectedLanes := by
  decide +kernel

theorem runEntry_neonTable {n : Nat} (hn : n < 256) :
    runEntry laneNumbers [] (neonTable.getD n []) = selectedLanes n := by
  calc runEntry laneNumbers [] (neonTable.getD n [])
    _ = (neonTable.map (runEntry laneNumbers [])).getD n laneNumbers := (List.getD_map ..).symm
    _ = ((List.range 256).map selectedLanes).getD n laneNumbers := by rw [map_runEntry_neonTable]
    _ = selectedLanes n := by simp [hn]

/-- The four lanes as one value, lane 0 lowest. -/
def Quad.pack (a : Quad (BitVec 32)) : Vec := pack32 a.l3 a.l2 a.l1 a.l0

/-- The shuffle unit packs what its entry makes of the lanes of `x`. -/
theorem neonShuffle_eq_pack (x : Vec) (imm8 : Byte) :
    neonShuffle x imm8 =
      (runEntry (laneNumbers.map (lane 32 x)) [] (neonTable.getD imm8.toNat [])).pack := rfl

/-- The selected lanes of `x`, packed, are the value rule R141 gives. -/
theorem pack_map_selectedLanes (x : Vec) (n : Nat) :
    ((selectedLanes n).map (lane 32 x)).pack = lanes32 fun j => lane 32 x (n / 4 ^ j % 4) := rfl

/-- The shuffle unit computes rule R141. -/
theorem neonShuffle_eq_lanes32 (x : Vec) (imm8 : Byte) :
    neonShuffle x imm8 = lanes32 fun j => lane 32 x (imm8.toNat / 4 ^ j % 4) := by
  have hrun : runEntry (laneNumbers.map (lane 32 x)) [] (neonTable.getD imm8.toNat []) =
      (selectedLanes imm8.toNat).map (lane 32 x) := by
    rw [← runEntry_neonTable imm8.isLt]
    exact runEntry_map (lane 32 x) laneNumbers [] _
  rw [neonShuffle_eq_pack, hrun, pack_map_selectedLanes]

/-- Settles O30: the counts are read off the table, and the lane rule is that of `neonShuffle_eq_lanes32`. -/
theorem neonTableMatchesTheShuffleRule : Obligations.NeonTableMatchesTheShuffleRule := by
  refine ⟨?entries, ?empty, ?single, ?double, ?triple, fun x imm8 => ?lanes⟩
  case entries | empty | single | double | triple => decide +kernel
  case lanes =>
    rw [neonShuffle_eq_lanes32]
    exact lanes32_lanes32 fun _ _ => rfl

end Sys2Proof.Machine
end

section
namespace Sys2Proof.Machine

/-! ## Integer arithmetic, lane by lane (R171, R173, R175, R185, R187) -/

/-! ### Lanes of formats `VV` and `VVVV` -/

theorem completesV_of_vv32 {i : Instr} {s : State} {rd ra : VReg} {f : BitVec 32 → BitVec 32}
    {P : Nat → BitVec 32 → Prop} (h : exec i s = vv32 f rd ra s) (hP : ∀ j, P j (f (v32 s ra j))) :
    CompletesV i s rd (Lanes32 P) :=
  completesV_of_doneV h (lanes32_lanes32 fun j _ => hP j)

theorem completesV_of_vv64 {i : Instr} {s : State} {rd ra : VReg} {f : BitVec 64 → BitVec 64}
    {P : Nat → BitVec 64 → Prop} (h : exec i s = vv64 f rd ra s) (hP : ∀ j, P j (f (v64 s ra j))) :
    CompletesV i s rd (Lanes64 P) :=
  completesV_of_doneV h (lanes64_lanes64 fun j _ => hP j)

theorem completesV_of_vvvv32 {i : Instr} {s : State} {rd ra rb rc : VReg}
    {f : BitVec 32 → BitVec 32 → BitVec 32 → BitVec 32} {P : Nat → BitVec 32 → Prop}
    (h : exec i s = vvvv32 f rd ra rb rc s) (hP : ∀ j, P j (f (v32 s ra j) (v32 s rb j) (v32 s rc j))) :
    CompletesV i s rd (Lanes32 P) :=
  completesV_of_doneV h (lanes32_lanes32 fun j _ => hP j)

theorem completesV_of_vvvv64 {i : Instr} {s : State} {rd ra rb rc : VReg}
    {f : BitVec 64 → BitVec 64 → BitVec 64 → BitVec 64} {P : Nat → BitVec 64 → Prop}
    (h : exec i s = vvvv64 f rd ra rb rc s) (hP : ∀ j, P j (f (v64 s ra j) (v64 s rb j) (v64 s rc j))) :
    CompletesV i s rd (Lanes64 P) :=
  completesV_of_doneV h (lanes64_lanes64 fun j _ => hP j)

/-! ### Lanes as integers modulo 2^W -/

section
variable {W : Nat}

/-- The pattern of an integer is that integer modulo 2^W. -/
theorem natCast_toNat_ofInt (n : ℤ) : ((BitVec.ofInt W n).toNat : ℤ) = n % 2 ^ W := by
  rw [BitVec.toNat_ofInt, Int.toNat_of_nonneg (Int.emod_nonneg _ (by positivity)), Nat.cast_pow, Nat.cast_ofNat]

theorem ofInt_natCast_toNat (a : BitVec W) : BitVec.ofInt W a.toNat = a := by
  rw [BitVec.ofInt_natCast, BitVec.ofNat_toNat, BitVec.setWidth_eq]

/-- The difference of lanes is the difference of their numbers modulo 2^W (R173). -/
theorem natCast_toNat_sub (a b : BitVec W) : ((a - b).toNat : ℤ) = ((a.toNat : ℤ) - b.toNat) % 2 ^ W := by
  rw [← natCast_toNat_ofInt, Int.sub_eq_add_neg, BitVec.ofInt_add, BitVec.ofInt_neg, ofInt_natCast_toNat,
    ofInt_natCast_toNat, BitVec.sub_eq_add_neg]

/-- The product of lanes is the product of the signed numbers modulo 2^W (R175). -/
theorem natCast_toNat_mul (a b : BitVec W) : ((a * b).toNat : ℤ) = a.toInt * b.toInt % 2 ^ W := by
  rw [← natCast_toNat_ofInt, BitVec.ofInt_mul, BitVec.ofInt_toInt, BitVec.ofInt_toInt]

/-- Negation is subtraction from zero modulo 2^W (R185). -/
theorem natCast_toNat_zero_sub (a : BitVec W) : ((0 - a).toNat : ℤ) = (-a.toNat : ℤ) % 2 ^ W := by
  rw [natCast_toNat_sub, BitVec.ofNat_eq_ofNat, BitVec.toNat_zero, Nat.cast_zero, zero_sub]

/-- Compare and negate is the absolute value as an unsigned number; so the most negative value, which stays, is its own
absolute value (R187). -/
theorem natCast_toNat_absLane (a : BitVec W) : ((absLane a).toNat : ℤ) = |a.toInt| := by
  have hlt := a.isLt
  have habs : absLane a = a.abs := by rw [absLane, BitVec.abs_eq, BitVec.ofNat_eq_ofNat, BitVec.zero_sub]
  rw [habs, BitVec.toNat_abs, BitVec.toInt_eq_msb_cond]
  split_ifs with hneg
  · rw [abs_of_neg (by omega)]; omega
  · rw [abs_of_nonneg (by omega)]

end

/-- Settles O31: `BitVec` arithmetic on the lanes is arithmetic modulo 2^W. -/
theorem integerAddSubMulWrap : Obligations.IntegerAddSubMulWrap := by
  intro s rd ra rb
  refine ⟨?add32, ?add64, ?sub32, ?sub64, ?mul32, ?mul64⟩
  case add32 => exact completesV_of_vvv32 rfl fun _ => BitVec.toNat_add _ _
  case add64 => exact completesV_of_vvv64 rfl fun _ => BitVec.toNat_add _ _
  case sub32 => exact completesV_of_vvv32 rfl fun _ => natCast_toNat_sub _ _
  case sub64 => exact completesV_of_vvv64 rfl fun _ => natCast_toNat_sub _ _
  case mul32 => exact completesV_of_vvv32 rfl fun _ => natCast_toNat_mul _ _
  case mul64 => exact completesV_of_vvv64 rfl fun _ => natCast_toNat_mul _ _

/-- Settles O35: the lane functions are subtraction from zero, and compare and negate. -/
theorem integerNegAndAbs : Obligations.IntegerNegAndAbs := by
  intro s rd ra
  refine ⟨?neg32, ?neg64, ?abs32, ?abs64⟩
  case neg32 => exact completesV_of_vv32 rfl fun _ => natCast_toNat_zero_sub _
  case neg64 => exact completesV_of_vv64 rfl fun _ => natCast_toNat_zero_sub _
  case abs32 => exact completesV_of_vv32 rfl fun _ => natCast_toNat_absLane _
  case abs64 => exact completesV_of_vv64 rfl fun _ => natCast_toNat_absLane _

/-! ## Integer division (R178, R179, R183, R189) -/

section
variable {W : Nat}

/-- The operands for which R179 leaves the quotient unconstrained: a zero divisor, and the quotient 2^(W-1). -/
def DivOpen (a b : BitVec W) : Prop := b.toInt = 0 ∨ a.toInt = -(2 ^ (W - 1)) ∧ b.toInt = -1

theorem divLane_of_divOpen (p : Params) (k : Kind) {a b : BitVec W} (h : DivOpen a b) :
    divLane p k a b = Config.intDivUndefined p k a b := by
  unfold divLane
  rcases h with hzero | hover
  · rw [if_pos hzero]
  · rw [if_pos hover, ite_self]

/-- The overflowing pair is the most negative pattern over the pattern of minus one. -/
theorem toInt_of_overflow (hW : 0 < W) {a b : BitVec W} (ha : a = BitVec.intMin W) (hb : b = -1#W) :
    a.toInt = -(2 ^ (W - 1)) ∧ b.toInt = -1 := by
  have hlt : 2 ^ (W - 1) < 2 ^ W := Nat.pow_lt_pow_right (by decide) (by omega)
  rw [ha, hb, BitVec.toInt_intMin, Nat.mod_eq_of_lt hlt, BitVec.neg_one_eq_allOnes, BitVec.toInt_allOnes, if_pos hW]
  exact ⟨by push_cast; rfl, rfl⟩

/-- Elsewhere the lane is the quotient rounded toward zero, which is in range (R178). -/
theorem toInt_divLane (hW : 0 < W) (p : Params) (k : Kind) {a b : BitVec W} (h : ¬DivOpen a b) :
    (divLane p k a b).toInt = a.toInt.tdiv b.toInt := by
  obtain ⟨hzero, hover⟩ := not_or.1 h
  have hne : a ≠ BitVec.intMin W ∨ b ≠ -1#W := by
    by_contra hboth
    push Not at hboth
    exact hover (toInt_of_overflow hW hboth.1 hboth.2)
  rw [divLane, if_neg hzero, if_neg hover, BitVec.toInt_ofInt, ← BitVec.toInt_sdiv,
    BitVec.toInt_sdiv_of_ne_or_ne a b hne]

end

/-- A quotient rounded toward zero leaves a remainder smaller than the divisor, of the dividend's sign (R189). -/
theorem exists_remainder_of_tdiv (a : ℤ) {b : ℤ} (hb : b ≠ 0) :
    ∃ rem : ℤ, a = a.tdiv b * b + rem ∧ |rem| < |b| ∧ (rem = 0 ∨ (rem < 0 ↔ a < 0)) := by
  refine ⟨a.tmod b, (Int.tdiv_mul_add_tmod a b).symm, ?_, ?_⟩
  · rw [Int.abs_eq_natAbs, Int.abs_eq_natAbs, Int.natAbs_tmod]
    exact_mod_cast Nat.mod_lt _ (Int.natAbs_pos.2 hb)
  · by_cases hdvd : b ∣ a
    · exact .inl (Int.tmod_eq_zero_of_dvd hdvd)
    · right
      have hsign := Int.sign_tmod a b
      rw [if_neg hdvd] at hsign
      rw [← Int.sign_eq_neg_one_iff_neg, hsign, Int.sign_eq_neg_one_iff_neg]

/-- What R178 says of one lane. -/
theorem divLane_spec {W : Nat} (hW : 0 < W) (p : Params) (k : Kind) (a b : BitVec W) :
    (DivOpen a b → divLane p k a b = Config.intDivUndefined p k a b) ∧
    (¬DivOpen a b → (divLane p k a b).toInt = a.toInt.tdiv b.toInt ∧
      ∃ rem : ℤ, a.toInt = (divLane p k a b).toInt * b.toInt + rem ∧ |rem| < |b.toInt| ∧
        (rem = 0 ∨ (rem < 0 ↔ a.toInt < 0))) := by
  refine ⟨divLane_of_divOpen p k, fun h => ?_⟩
  rw [toInt_divLane hW p k h]
  exact ⟨rfl, exists_remainder_of_tdiv _ (not_or.1 h).1⟩

/-- Settles O33: both instructions are `divLane` in every lane. -/
theorem integerDivideTowardZero : Obligations.IntegerDivideTowardZero := by
  intro s rd ra rb
  refine ⟨?div32, ?div64⟩
  case div32 => exact completesV_of_vvv32 rfl fun _ => divLane_spec (by decide) s.params .pi32 _ _
  case div64 => exact completesV_of_vvv64 rfl fun _ => divLane_spec (by decide) s.params .pi64 _ _

theorem safedivLane_zero {W : Nat} {p : Params} {k : Kind} {a b : BitVec W} (h : b = 0) :
    safedivLane p k a b = a := if_pos h

theorem safedivLane_of_ne {W : Nat} {p : Params} {k : Kind} {a b : BitVec W} (h : b ≠ 0) :
    safedivLane p k a b = divLane p k a b := if_neg h

/-- A lane of the register an instruction wrote is the lane of the value written. -/
theorem v32_advance_writeV (s : State) (rd : VReg) (x : Vec) (j : Nat) :
    v32 (advance (writeV s rd x)) rd j = lane 32 x j :=
  congrArg (lane 32 · j) (readV_writeV_self s rd x)

theorem v64_advance_writeV (s : State) (rd : VReg) (x : Vec) (j : Nat) :
    v64 (advance (writeV s rd x)) rd j = lane 64 x j :=
  congrArg (lane 64 · j) (readV_writeV_self s rd x)

/-- Settles O34: over a divisor that is not zero `safediv` computes the lane that `div` writes to `v[rd]`. -/
theorem safeDivideInteger : Obligations.SafeDivideInteger := by
  intro s rd ra rb
  refine ⟨⟨_, rfl, completesV_of_doneV rfl (lanes32_zip32 fun j hj => ⟨safedivLane_zero, fun hne => ?_⟩)⟩,
    ⟨_, rfl, completesV_of_doneV rfl (lanes64_zip64 fun j hj => ⟨safedivLane_zero, fun hne => ?_⟩)⟩⟩
  · rw [safedivLane_of_ne hne, v32_advance_writeV, lane_zip32 _ _ _ hj]
  · rw [safedivLane_of_ne hne, v64_advance_writeV, lane_zip64 _ _ _ hj]

end Sys2Proof.Machine
end

section
namespace Sys2Proof.Machine

/-! ## Float neg, abs and remove_signed_zero: the sign bit alone (R186, R188, R266) -/

section
variable {W : Nat}

theorem toNat_signBit (hW : 0 < W) : (signBit W).toNat = 2 ^ (W - 1) := by
  rw [signBit, BitVec.toNat_ofNat, Nat.mod_eq_of_lt (Nat.pow_lt_pow_right (by decide) (by omega))]

theorem msb_signBit (hW : 0 < W) : (signBit W).msb = true := by
  rw [BitVec.msb_eq_decide, toNat_signBit hW, decide_eq_true le_rfl]

/-- Exclusive or with the sign bit complements bit W-1 and keeps the bits below it (R186). -/
theorem xor_signBit_fields (hW : 0 < W) (a : BitVec W) :
    (a ^^^ signBit W).msb = !a.msb ∧ (a ^^^ signBit W).toNat % 2 ^ (W - 1) = a.toNat % 2 ^ (W - 1) := by
  constructor
  · rw [BitVec.msb_xor, msb_signBit hW, Bool.xor_true]
  · rw [BitVec.toNat_xor, Nat.xor_mod_two_pow, toNat_signBit hW, Nat.mod_self, Nat.xor_zero]

/-- And with the complement of the sign bit keeps the bits below it alone (R188). -/
theorem toNat_and_not_signBit (hW : 0 < W) (a : BitVec W) : (a &&& ~~~signBit W).toNat = a.toNat % 2 ^ (W - 1) := by
  have hmask : (~~~signBit W).toNat = 2 ^ (W - 1) - 1 := by
    have hdouble : 2 ^ W = 2 ^ (W - 1) * 2 := by rw [← pow_succ, Nat.sub_add_cancel hW]
    rw [BitVec.toNat_not, toNat_signBit hW]
    omega
  rw [BitVec.toNat_and, hmask, Nat.and_two_pow_sub_one_eq_mod]

theorem removeSignedZeroLane_spec (a : BitVec W) : (a = signBit W → removeSignedZeroLane a = 0) ∧
    (a ≠ signBit W → removeSignedZeroLane a = a) := ⟨fun h => if_pos h, fun h => if_neg h⟩

end

/-- Settles O36: the pattern -0 of each width is its sign bit, and the three operations read no other field. -/
theorem floatSignOperations : Obligations.FloatSignOperations := by
  have h32 : 0 < 32 := by decide
  have h64 : 0 < 64 := by decide
  intro s rd ra
  refine ⟨?neg32, ?neg64, ?abs32, ?abs64, ?zero32, ?zero64⟩
  case neg32 => exact completesV_of_vv32 rfl fun _ => xor_signBit_fields h32 _
  case neg64 => exact completesV_of_vv64 rfl fun _ => xor_signBit_fields h64 _
  case abs32 => exact completesV_of_vv32 rfl fun _ => toNat_and_not_signBit h32 _
  case abs64 => exact completesV_of_vv64 rfl fun _ => toNat_and_not_signBit h64 _
  case zero32 => exact completesV_of_vv32 rfl fun _ => removeSignedZeroLane_spec _
  case zero64 => exact completesV_of_vv64 rfl fun _ => removeSignedZeroLane_spec _

end Sys2Proof.Machine
end

section
namespace Sys2Proof.Machine

/-! ## Multiply-add (R14, R182) -/

/-- `ffma` rounds the exact product plus addend once, with the special cases of R14, whatever NaN it is handed. -/
theorem fmaResult_ffma {W : Nat} (hW : W = 32 ∨ W = 64) {nan : BitVec W} (hnan : isNaN nan = true)
    (a b c : BitVec W) : FmaResult a b c (ffma nan a b c) := by
  have hprod : val a * val b = 0 ↔ isZero a = true ∨ isZero b = true := by
    rw [mul_eq_zero, val_eq_zero_iff hW, val_eq_zero_iff hW]
  obtain ⟨x, hx⟩ : ∃ x, x = scaled a * scaled b + scaled c * 2 ^ unitExp W := ⟨_, rfl⟩
  have hunit : (2 : ℚ) ^ (-(unitExp W : ℤ)) = (2 ^ unitExp W)⁻¹ := by rw [zpow_neg, zpow_natCast]
  have hval : val a * val b + val c = (x : ℚ) / (2 ^ unitExp W : ℕ) * 2 ^ (-(unitExp W : ℤ)) := by
    rw [hx, val_eq_scaled hW, val_eq_scaled hW, val_eq_scaled hW, hunit]
    push_cast
    field_simp
  have hsum : val a * val b + val c = 0 ↔ x = 0 := by
    rw [hval, hunit]
    simp
  unfold FmaResult ffma
  have hsign : (signOf a != signOf b) = (a.msb ^^ b.msb) := rfl
  rw [← hx, hsign]
  generalize (a.msb ^^ b.msb) = sg
  by_cases hn : isNaN a = true ∨ isNaN b = true ∨ isNaN c = true
  · simp [hn, or_assoc, hnan]
  · by_cases hinvalid : isInf a = true ∧ isZero b = true ∨ isZero a = true ∧ isInf b = true
    · simp [hn, or_assoc, hinvalid, hnan]
    · by_cases hinf : isInf a = true ∨ isInf b = true
      · by_cases hopp : isInf c = true ∧ sg ≠ c.msb
        · simp [hn, or_assoc, hinvalid, hinf, hopp, signOf, hnan]
        · simpa [hn, or_assoc, hinvalid, hinf, hopp, signOf] using isInfinity_infinity hW sg
      · by_cases hc : isInf c = true
        · simp [hn, or_assoc, hinvalid, hinf, hc]
        · by_cases h0 : x = 0
          · simp [hn, or_assoc, hinvalid, hinf, hc, hsum, h0, hprod, and_assoc]
          · have hround : IsRound W (val a * val b + val c) (roundTo W (x < 0) x.natAbs (2 ^ unitExp W)) :=
              isRound_of_units hW _ (Int.natAbs_pos.2 h0) (Nat.two_pow_pos _) (by
                rw [div_eq_mul_inv, signed_mul, signed_natAbs, ← div_eq_mul_inv, hval])
            simpa [hn, or_assoc, hinvalid, hinf, hc, hsum, h0] using hround

/-- `fmulAdd` rounds once or twice, as the block was built (R182). -/
theorem mulAddResult_fmulAdd {W : Nat} (hW : W = 32 ∨ W = 64) (p : Params) {nan : BitVec W} (hnan : isNaN nan = true)
    (a b c : BitVec W) : MulAddResult p.fusedMulAdd a b c (fmulAdd p nan a b c) := by
  unfold MulAddResult fmulAdd
  split_ifs
  · exact fmaResult_ffma hW hnan a b c
  · exact ⟨fmul nan a b, mulResult_fmul hW hnan a b, addResult_fadd hW hnan _ c⟩

/-- Settles O41: the lane function is `fmulAdd`, with a drawn NaN. -/
theorem floatMultiplyAdd : Obligations.FloatMultiplyAdd := by
  have h32 : (32 = 32 ∨ 32 = 64) := .inl rfl
  have h64 : (64 = 32 ∨ 64 = 64) := .inr rfl
  intro s rd ra rb rc
  refine ⟨?ps, ?pd⟩
  case ps => exact completesV_of_vvvv32 rfl fun _ => mulAddResult_fmulAdd h32 _ (isNaN_nanDraw h32 ..) _ _ _
  case pd => exact completesV_of_vvvv64 rfl fun _ => mulAddResult_fmulAdd h64 _ (isNaN_nanDraw h64 ..) _ _ _

end Sys2Proof.Machine
end

section
namespace Sys2Proof.Machine

/-! ## The reference constructions (R176, R181, R214, R232) -/

/-! ### Extract, compute, reinsert (R181, R232) -/

/-- Lanes 0 and 1 replaced in turn leave nothing of the value they were inserted into. -/
theorem viaScalar64_eq_zip64 (unit : BitVec 64 → BitVec 64 → BitVec 64) (a b : Vec) :
    viaScalar64 unit a b = zip64 unit a b := by
  refine eq_of_lanes64 fun j hj => ?_
  rw [viaScalar64, lane_zip64 unit a b hj, lane_setLane64 _ _ _ hj]
  split_ifs with h1
  · rw [h1]
  · obtain rfl : j = 0 := by omega
    rw [lane_setLane64_self _ _ hj]

theorem viaScalar32_eq_zip32 (unit : BitVec 32 → BitVec 32 → BitVec 32) (a b : Vec) :
    viaScalar32 unit a b = zip32 unit a b := by
  refine eq_of_lanes32 fun j hj => ?_
  simp only [viaScalar32, List.foldl, lane_zip32 unit a b hj, lane_setLane32 _ _ _ hj]
  split_ifs with h3 h2 h1 h0
  · rw [h3]
  · rw [h2]
  · rw [h1]
  · rw [h0]
  · omega

/-! ### The two halves of a 64-bit lane -/

/-- An even 32-bit lane is the low half of a 64-bit lane. -/
theorem lane32_even (x : Vec) (j : Nat) : lane 32 x (2 * j) = low32 (lane 64 x j) := by
  rw [lane64_eq_append, low32, BitVec.extractLsb'_append_eq_right]

/-- The upper half of a 64-bit lane, moved down, is the odd 32-bit lane. -/
theorem low32_shiftRight_lane64 (x : Vec) (j : Nat) : low32 (lane 64 x j >>> 32) = lane 32 x (2 * j + 1) := by
  rw [lane64_eq_append, low32]
  ext i hi
  rw [BitVec.getElem_extractLsb', BitVec.getLsbD_ushiftRight, BitVec.getLsbD_append, if_neg (by omega),
    ← BitVec.getLsbD_eq_getElem]
  congr 1
  omega

theorem lane_oddToEven (x : Vec) {j : Nat} (hj : j < 2) : lane 32 (oddToEven x) (2 * j) = lane 32 x (2 * j + 1) := by
  rw [lane32_even, oddToEven, lane_map64 _ _ hj, low32_shiftRight_lane64]

theorem low32_mul (x y : Scalar) : low32 (x * y) = low32 x * low32 y := by
  have h (z : Scalar) : low32 z = z.setWidth 32 := (BitVec.setWidth_eq_extractLsb' (by decide)).symm
  rw [h, h, h, BitVec.setWidth_mul _ _ (by decide)]

/-- The low half of a full product is the product of the low halves (R176). -/
theorem lane_umul32x32to64 (a b : Vec) {j : Nat} (hj : j < 2) :
    lane 32 (umul32x32to64 a b) (2 * j) = lane 32 a (2 * j) * lane 32 b (2 * j) := by
  rw [lane32_even, umul32x32to64, lane_lanes64 _ hj, low32_mul, zext64, zext64, low32_setWidth, low32_setWidth]

/-! ### mul_pi32 by absolute values (R176) -/

section
variable {W : Nat}

theorem maskLane_xor (c d : Bool) : maskLane W c ^^^ maskLane W d = maskLane W (c ^^ d) := by
  cases c <;> cases d <;> simp

/-- `(x ^ m) - m` for a mask lane `m`, the SSE2 way to negate where a condition holds (R176). -/
theorem xor_sub_maskLane (x : BitVec W) (c : Bool) :
    (x ^^^ maskLane W c) - maskLane W c = if c then -x else x := by
  cases c
  · simp
  · rw [maskLane_true, BitVec.xor_allOnes, ← BitVec.neg_one_eq_allOnes, BitVec.sub_neg, if_pos rfl,
      ← BitVec.neg_eq_not_add]

/-- Negating the factors and then the product, each by its sign, cancels out. -/
theorem negate_mul_negate (x y : BitVec W) (c d : Bool) :
    (if c ^^ d then -((if c then -x else x) * (if d then -y else y))
      else (if c then -x else x) * (if d then -y else y)) = x * y := by
  cases c <;> cases d <;> simp

end

/-- `umul32x32_64` on the lanes as they are and on the odd lanes moved down, the low halves packed in lane order, is the
product of the lanes (R176). -/
theorem pack_umul_eq_zip32 (a b : Vec) :
    pack32 (lane 32 (umul32x32to64 (oddToEven a) (oddToEven b)) 2) (lane 32 (umul32x32to64 a b) 2)
      (lane 32 (umul32x32to64 (oddToEven a) (oddToEven b)) 0) (lane 32 (umul32x32to64 a b) 0) =
      zip32 (fun x y => x * y) a b := by
  have heven (j : Nat) (hj : j < 2) := lane_umul32x32to64 a b hj
  have hodd (j : Nat) (hj : j < 2) : lane 32 (umul32x32to64 (oddToEven a) (oddToEven b)) (2 * j) =
      lane 32 a (2 * j + 1) * lane 32 b (2 * j + 1) := by
    rw [lane_umul32x32to64 _ _ hj, lane_oddToEven a hj, lane_oddToEven b hj]
  rw [heven 0 (by decide), heven 1 (by decide), hodd 0 (by decide), hodd 1 (by decide)]
  rfl

theorem lane_xor (W : Nat) (x y : Vec) (j : Nat) : lane W (x ^^^ y) j = lane W x j ^^^ lane W y j :=
  BitVec.extractLsb'_xor

theorem lane_and (W : Nat) (x y : Vec) (j : Nat) : lane W (x &&& y) j = lane W x j &&& lane W y j :=
  BitVec.extractLsb'_and

theorem not_zip64 (f : BitVec 64 → BitVec 64 → BitVec 64) (x y : Vec) :
    ~~~zip64 f x y = zip64 (fun a b => ~~~f a b) x y := BitVec.not_append

theorem not_maskLane (W : Nat) (c : Bool) : ~~~maskLane W c = maskLane W !c := by
  cases c <;> simp

theorem mulPi32Sse2_eq_zip32 (a b : Vec) : mulPi32Sse2 a b = zip32 (fun x y => x * y) a b := by
  refine eq_of_lanes32 fun j hj => ?_
  rw [mulPi32Sse2, pack_umul_eq_zip32]
  simp only [lane_zip32 _ _ _ hj, lane_map32 _ _ hj, lane_xor, signMask, maskLane_xor, xor_sub_maskLane,
    negate_mul_negate]

/-! ### sra_imm_pi64 by a logical shift (R214) -/

/-- `TOP(n)` has its `n` most significant bits set. -/
theorem getLsbD_topMask {n : Nat} (hn : n < 64) (i : Nat) :
    (topMask n).getLsbD i = decide (i < 64 ∧ 64 ≤ n + i) := by
  rw [topMask]
  split_ifs with h0
  · rw [BitVec.ofNat_eq_ofNat, BitVec.getLsbD_zero, eq_comm, decide_eq_false_iff_not]
    omega
  · rw [BitVec.getLsbD_shiftLeft, BitVec.getLsbD_allOnes, ← decide_not, ← Bool.decide_and, ← Bool.decide_and,
      decide_eq_decide]
    omega

theorem getLsbD_signMask {W : Nat} (x : BitVec W) (i : Nat) : (signMask x).getLsbD i = (decide (i < W) && x.msb) := by
  rw [signMask]
  cases x.msb <;> simp

/-- The bits a logical shift vacates, filled with the sign, make the arithmetic shift. -/
theorem shiftRight_or_top {n : Nat} (hn : n < 64) (x : BitVec 64) :
    x >>> n ||| (signMask x &&& topMask n) = x.sshiftRight n := by
  ext i hi
  rw [← BitVec.getLsbD_eq_getElem, ← BitVec.getLsbD_eq_getElem, BitVec.getLsbD_or, BitVec.getLsbD_and,
    getLsbD_signMask, getLsbD_topMask hn, BitVec.getLsbD_ushiftRight, BitVec.getLsbD_sshiftRight]
  by_cases h : n + i < 64
  · simp [h, Nat.not_le.2 hi, Nat.not_le.2 h]
  · simp [h, hi, Nat.not_lt.1 h]

theorem sraImmPi64Sse2_eq_map64 {n : Nat} (hn : n < 64) (a : Vec) :
    sraImmPi64Sse2 a n = map64 (fun x => shiftRightArith x n) a :=
  congrArg (map64 · a) (funext (shiftRight_or_top hn))

/-! ### The 64-bit compare from the 32-bit one (R232) -/

theorem append_maskLane_and (c d : Bool) :
    (maskLane 32 c &&& maskLane 32 d) ++ (maskLane 32 d &&& maskLane 32 c) = maskLane 64 (c && d) := by
  cases c <;> cases d <;> decide

theorem lane64_eq_iff (x y : Vec) (j : Nat) : lane 64 x j = lane 64 y j ↔
    lane 32 x (2 * j + 1) = lane 32 y (2 * j + 1) ∧ lane 32 x (2 * j) = lane 32 y (2 * j) := by
  constructor
  · intro h
    refine ⟨?_, ?_⟩
    · rw [← low32_shiftRight_lane64, h, low32_shiftRight_lane64]
    · rw [lane32_even, h, lane32_even]
  · rintro ⟨hodd, heven⟩
    rw [lane64_eq_append, hodd, heven, lane64_eq_append]

/-- Selector 0xB1 exchanges the halves of each 64-bit lane (R232). -/
theorem lane_exchangeHalves (x : Vec) {j : Nat} (hj : j < 2) :
    lane 32 (lanes32 fun i => lane 32 x (selector4 0xB1 i)) (2 * j + 1) = lane 32 x (2 * j) ∧
      lane 32 (lanes32 fun i => lane 32 x (selector4 0xB1 i)) (2 * j) = lane 32 x (2 * j + 1) := by
  have hsel : selector4 0xB1 (2 * j + 1) = 2 * j ∧ selector4 0xB1 (2 * j) = 2 * j + 1 := by
    revert j; decide
  rw [lane_lanes32 _ (by omega), lane_lanes32 _ (by omega), hsel.1, hsel.2]
  exact ⟨rfl, rfl⟩

theorem cmpeqPi64Sse2_eq_zip64 (a b : Vec) :
    cmpeqPi64Sse2 a b = zip64 (fun x y => maskLane 64 (x = y)) a b := by
  refine eq_of_lanes64 fun j hj => ?_
  obtain ⟨hodd, heven⟩ := lane_exchangeHalves (zip32 (fun x y => maskLane 32 (x = y)) a b) hj
  rw [lane64_eq_append, cmpeqPi64Sse2, lane_and, lane_and, hodd, heven, lane_zip32 _ _ _ (by omega),
    lane_zip32 _ _ _ (by omega), append_maskLane_and, lane_zip64 _ _ _ hj, ← Bool.decide_and]
  exact congrArg (maskLane 64) (decide_eq_decide.2 (lane64_eq_iff a b j).symm)

theorem not_cmpeqPi64Sse2_eq_zip64 (a b : Vec) :
    ~~~cmpeqPi64Sse2 a b = zip64 (fun x y => maskLane 64 (x ≠ y)) a b := by
  simp only [cmpeqPi64Sse2_eq_zip64, not_zip64, not_maskLane, ← decide_not, ne_eq]

/-- The lane product as a number modulo 2^64, as the scalar unit of R181 computes it. -/
theorem ofNat_toNat_mul_toNat {W : Nat} (a b : BitVec W) : BitVec.ofNat W (a.toNat * b.toNat) = a * b := by
  rw [BitVec.ofNat_mul, BitVec.ofNat_toNat, BitVec.ofNat_toNat, BitVec.setWidth_eq, BitVec.setWidth_eq]

/-- Settles O32: each construction is the lane-wise value that the instruction writes. -/
theorem backendConstructionsAgree : Obligations.BackendConstructionsAgree := by
  intro s rd ra rb imm8
  refine ⟨?mul32, fun hcount => ?sra64, ?cmpeq, ?cmpneq, ?mul64, ?div32, ?div64, ?lt, ?le, ?ge, ?gt⟩
  case mul32 => exact completesV_of_doneV rfl (mulPi32Sse2_eq_zip32 _ _).symm
  case sra64 => exact completesV_of_doneV rfl (sraImmPi64Sse2_eq_map64 hcount _).symm
  case cmpeq => exact completesV_of_doneV rfl (cmpeqPi64Sse2_eq_zip64 _ _).symm
  case cmpneq => exact completesV_of_doneV rfl (not_cmpeqPi64Sse2_eq_zip64 _ _).symm
  case mul64 =>
    simp only [ofNat_toNat_mul_toNat]
    exact completesV_of_doneV rfl (viaScalar64_eq_zip64 _ _ _).symm
  case div32 => exact completesV_of_doneV rfl (viaScalar32_eq_zip32 _ _ _).symm
  case div64 | lt | le | ge | gt => exact completesV_of_doneV rfl (viaScalar64_eq_zip64 _ _ _).symm

end Sys2Proof.Machine
end

section
namespace Sys2Proof.Machine

/-! ## Bitwise operations and mask combinators (R201 to R205, R233 to R237, R239)

Neither the kind nor whether the operands are masks changes anything in the result, so all the instructions of one
operation write the same value, and what is left is that value's bit `n`. -/

theorem getLsbD_not_vec (x : Vec) {n : Nat} (hn : n < 128) : (~~~x).getLsbD n = !x.getLsbD n := by
  rw [BitVec.getLsbD_not, decide_eq_true hn, Bool.true_and]

theorem getLsbD_andnot (x y : Vec) {n : Nat} (hn : n < 128) :
    (~~~x &&& y).getLsbD n = (!x.getLsbD n && y.getLsbD n) := by
  rw [BitVec.getLsbD_and, getLsbD_not_vec x hn]

theorem getLsbD_xnor (x y : Vec) {n : Nat} (hn : n < 128) :
    (~~~(x ^^^ y)).getLsbD n = !(x.getLsbD n ^^ y.getLsbD n) := by
  rw [getLsbD_not_vec _ hn, BitVec.getLsbD_xor]

/-- Settles O42: each group of instructions writes one value, the Boolean function of the sources in every bit. -/
theorem bitwiseOnAllBits : Obligations.BitwiseOnAllBits := by
  intro s rd ra rb
  refine ⟨?and, ?andnot, ?or, ?xor, ?xnor, ?not⟩
  case and => exact completesV_of_forall ⟨rfl, rfl, rfl, rfl, rfl, rfl, rfl, rfl⟩ fun _ _ => BitVec.getLsbD_and
  case andnot =>
    exact completesV_of_forall ⟨rfl, rfl, rfl, rfl, rfl, rfl, rfl, rfl⟩ fun _ hn => getLsbD_andnot _ _ hn
  case or => exact completesV_of_forall ⟨rfl, rfl, rfl, rfl, rfl, rfl, rfl, rfl⟩ fun _ _ => BitVec.getLsbD_or
  case xor => exact completesV_of_forall ⟨rfl, rfl, rfl, rfl, rfl, rfl, rfl, rfl⟩ fun _ _ => BitVec.getLsbD_xor
  case xnor => exact completesV_of_forall ⟨rfl, rfl, rfl, rfl⟩ fun _ hn => getLsbD_xnor _ _ hn
  case not => exact completesV_of_forall ⟨rfl, rfl, rfl, rfl, rfl, rfl, rfl, rfl⟩ fun _ hn => getLsbD_not_vec _ hn

end Sys2Proof.Machine
end

section
namespace Sys2Proof.Machine

/-! ## Shifts (R211 to R213, R215 to R220) -/

/-! ### One lane shifted by a count -/

section
variable {W : Nat}

theorem toNat_shiftLeft (a : BitVec W) (n : Nat) : (shiftLeft a n).toNat = a.toNat * 2 ^ n % 2 ^ W := by
  rw [shiftLeft, BitVec.toNat_shiftLeft, Nat.shiftLeft_eq]

theorem toNat_shiftRightLogical (a : BitVec W) (n : Nat) : (shiftRightLogical a n).toNat = a.toNat / 2 ^ n := by
  rw [shiftRightLogical, BitVec.toNat_ushiftRight, Nat.shiftRight_eq_div_pow]

/-- Copies of the sign entering at the top make the quotient round toward minus infinity (R213). -/
theorem toInt_shiftRightArith (a : BitVec W) (n : Nat) :
    (shiftRightArith a n).toInt = ⌊(a.toInt : ℚ) / 2 ^ n⌋ := by
  rw [shiftRightArith, BitVec.toInt_sshiftRight, Int.shiftRight_eq_div_pow]
  exact_mod_cast (Rat.floor_intCast_div_natCast a.toInt (2 ^ n)).symm

/-- A left shift is a multiply by a power of two (R220). -/
theorem mul_eq_shiftLeft {a b : BitVec W} {n : Nat} (hb : b.toNat = 2 ^ n) : a * b = shiftLeft a n :=
  BitVec.eq_of_toNat_eq (by rw [BitVec.toNat_mul, hb, toNat_shiftLeft])

/-- On a lane whose bit W-1 is 0 both right shifts bring in zeros (R220). -/
theorem shiftRightArith_of_msb_false {a : BitVec W} (n : Nat) (h : a.msb = false) :
    shiftRightArith a n = shiftRightLogical a n := BitVec.sshiftRight_eq_of_msb_false h

/-! ### One lane shifted by another lane (R215, R216) -/

variable {p : Params} {op : BitVec 8} {k : Kind} {shift : BitVec W → Nat → BitVec W} {a b : BitVec W}

theorem shiftLane_of_le (h : b.toNat ≤ W - 1) : shiftLane p op k shift a b = shift a b.toNat := if_pos h

theorem shiftLane_of_toNat_eq {n : Nat} (hn : n < W) (hb : b.toNat = n) :
    shiftLane p op k shift a b = shift a n := by
  rw [shiftLane_of_le (by omega), hb]

theorem toNat_shiftLane_left (h : b.toNat ≤ W - 1) :
    (shiftLane p op k shiftLeft a b).toNat = a.toNat * 2 ^ b.toNat % 2 ^ W := by
  rw [shiftLane_of_le h, toNat_shiftLeft]

theorem toNat_shiftLane_logical (h : b.toNat ≤ W - 1) :
    (shiftLane p op k shiftRightLogical a b).toNat = a.toNat / 2 ^ b.toNat := by
  rw [shiftLane_of_le h, toNat_shiftRightLogical]

theorem toInt_shiftLane_arith (h : b.toNat ≤ W - 1) :
    (shiftLane p op k shiftRightArith a b).toInt = ⌊(a.toInt : ℚ) / 2 ^ b.toNat⌋ := by
  rw [shiftLane_of_le h, toInt_shiftRightArith]

end

/-- Settles O43: the lane rules hold for every count, so the decoder's bound on it (R64) is not used. -/
theorem shiftByImmediate : Obligations.ShiftByImmediate := by
  intro s rd ra imm8
  refine ⟨fun _ => ⟨?sl32, ?srl32, ?sra32⟩, fun _ => ⟨?sl64, ?srl64, ?sra64⟩⟩
  case sl32 => exact completesV_of_vv32 rfl fun _ => toNat_shiftLeft _ _
  case srl32 => exact completesV_of_vv32 rfl fun _ => toNat_shiftRightLogical _ _
  case sra32 => exact completesV_of_vv32 rfl fun _ => toInt_shiftRightArith _ _
  case sl64 => exact completesV_of_vv64 rfl fun _ => toNat_shiftLeft _ _
  case srl64 => exact completesV_of_vv64 rfl fun _ => toNat_shiftRightLogical _ _
  case sra64 => exact completesV_of_vv64 rfl fun _ => toInt_shiftRightArith _ _

/-- Settles O44: the instructions complete whatever the counts are, and a lane whose count is in range is the shifted
lane. -/
theorem shiftByVectorAmount : Obligations.ShiftByVectorAmount := by
  intro s rd ra rb
  refine ⟨?sl32, ?srl32, ?sra32, ?sl64, ?srl64, ?sra64⟩
  case sl32 => exact completesV_of_vvv32 rfl fun _ => toNat_shiftLane_left
  case srl32 => exact completesV_of_vvv32 rfl fun _ => toNat_shiftLane_logical
  case sra32 => exact completesV_of_vvv32 rfl fun _ => toInt_shiftLane_arith
  case sl64 => exact completesV_of_vvv64 rfl fun _ => toNat_shiftLane_left
  case srl64 => exact completesV_of_vvv64 rfl fun _ => toNat_shiftLane_logical
  case sra64 => exact completesV_of_vvv64 rfl fun _ => toInt_shiftLane_arith

/-! ### Agreement of the forms (R220) -/

/-- A two-operand and a one-operand instruction on 32-bit lanes write the same register if their lane functions agree on
every lane. -/
theorem exec_vvv32_agrees_vv32 {i i' : Instr} {s : State} {rd ra rb : VReg}
    {f : BitVec 32 → BitVec 32 → BitVec 32} {g : BitVec 32 → BitVec 32}
    (hi : exec i s = vvv32 f rd ra rb s) (hi' : exec i' s = vv32 g rd ra s)
    (hfg : ∀ j < 4, f (v32 s ra j) (v32 s rb j) = g (v32 s ra j)) :
    ∃ t, exec i s = .next t ∧ CompletesV i' s rd fun r => r = readV t rd := by
  have hvalue : map32 g (readV s ra) = zip32 f (readV s ra) (readV s rb) := eq_of_lanes32 fun j hj => by
    rw [lane_map32 _ _ hj, lane_zip32 _ _ _ hj]
    exact (hfg j hj).symm
  exact ⟨_, hi, completesV_of_doneV hi' (hvalue.trans (readV_writeV_self ..).symm)⟩

/-- A two-operand and a one-operand instruction on 64-bit lanes write the same register if their lane functions agree on
every lane. -/
theorem exec_vvv64_agrees_vv64 {i i' : Instr} {s : State} {rd ra rb : VReg}
    {f : BitVec 64 → BitVec 64 → BitVec 64} {g : BitVec 64 → BitVec 64}
    (hi : exec i s = vvv64 f rd ra rb s) (hi' : exec i' s = vv64 g rd ra s)
    (hfg : ∀ j < 2, f (v64 s ra j) (v64 s rb j) = g (v64 s ra j)) :
    ∃ t, exec i s = .next t ∧ CompletesV i' s rd fun r => r = readV t rd := by
  have hvalue : map64 g (readV s ra) = zip64 f (readV s ra) (readV s rb) := eq_of_lanes64 fun j hj => by
    rw [lane_map64 _ _ hj, lane_zip64 _ _ _ hj]
    exact (hfg j hj).symm
  exact ⟨_, hi, completesV_of_doneV hi' (hvalue.trans (readV_writeV_self ..).symm)⟩

/-- Settles O45: in each agreement the two instructions' lane functions are equal on the lanes that it speaks of. -/
theorem shiftFormsAgree : Obligations.ShiftFormsAgree := by
  intro s rd ra rb imm8
  refine ⟨fun hn => ⟨fun hcount => ?forms32, fun hpow => ?mul32, ?right32⟩,
    fun hn => ⟨fun hcount => ?forms64, fun hpow => ?mul64, ?right64⟩⟩
  case forms32 =>
    refine List.forall_iff_forall_mem.1 ⟨?_, ?_, ?_⟩ <;>
      exact exec_vvv32_agrees_vv32 rfl rfl fun j hj => shiftLane_of_toNat_eq hn (hcount j hj)
  case forms64 =>
    refine List.forall_iff_forall_mem.1 ⟨?_, ?_, ?_⟩ <;>
      exact exec_vvv64_agrees_vv64 rfl rfl fun j hj => shiftLane_of_toNat_eq hn (hcount j hj)
  case mul32 => exact exec_vvv32_agrees_vv32 rfl rfl fun j hj => mul_eq_shiftLeft (hpow j hj)
  case mul64 => exact exec_vvv64_agrees_vv64 rfl rfl fun j hj => mul_eq_shiftLeft (hpow j hj)
  case right32 =>
    refine ⟨_, rfl, completesV_of_doneV rfl (lanes32_lanes32 fun j hj hmsb => ?_)⟩
    rw [v32_advance_writeV, lane_map32 _ _ hj]
    exact shiftRightArith_of_msb_false _ hmsb
  case right64 =>
    refine ⟨_, rfl, completesV_of_doneV rfl (lanes64_lanes64 fun j hj hmsb => ?_)⟩
    rw [v64_advance_writeV, lane_map64 _ _ hj]
    exact shiftRightArith_of_msb_false _ hmsb

end Sys2Proof.Machine
end

section
namespace Sys2Proof.Machine

/-! ## Faults and the end of a run (R310 to R314, R344, R346) -/

/-- Settles O6: in any run state but RUNNING the sequencer idles. -/
theorem nothingStepsUnlessRunning : Obligations.NothingStepsUnlessRunning := fun _ h => step_of_not_running h

/-- Settles O7: the code and the information are those that R312 names for each fault, and a raise has one frame. -/
theorem raiseWritesTheFaultRecordOnly : Obligations.RaiseWritesTheFaultRecordOnly := fun s _ =>
  ⟨raised_raise s _, raised_raise s _, raised_raise s _, raised_raise s _⟩

/-- A fault after the fetch is a fault of the state before it: the fetch touches nothing that the frame of a fault speaks
of (log 18). -/
theorem raised_of_raised_afterFetch {s t : State} {code : Nat} {info : Word} (h : Raised (afterFetch s) t code info) :
    Raised s t code info := by
  obtain ⟨n, hn⟩ := afterFetch_eq_with_draws s
  rw [hn] at h
  exact { h with }

/-- `t` is `s` after one of the four faults, and nothing else happened (R310, R312). -/
def Faulted (s t : State) : Prop := ∃ code info, 1 ≤ code ∧ code ≤ 4 ∧ Raised s t code info

/-- `t` is `s` after an instruction has completed: the fault record is kept, `pc` advanced and the run goes on unless the
instruction was `halt` (R25, R100, R310). -/
structure Completed (i : Instr) (s t : State) : Prop where
  pc : t.pc.toNat = (s.pc.toNat + 4) % 2 ^ 32
  cause : t.cause = s.cause
  fpc : t.fpc = s.fpc
  finfo : t.finfo = s.finfo
  rs : i ≠ .halt → t.rs = s.rs
  rsHalt : i = .halt → t.rs = .halted

theorem faulted_raise (s : State) (f : ArchFault) : Faulted s (raise s f) :=
  ⟨_, _, (faultCode_bounds f).1, (faultCode_bounds f).2, raised_raise s f⟩

theorem faulted_of_faulted_afterFetch {s t : State} (h : Faulted (afterFetch s) t) : Faulted s t := by
  obtain ⟨code, info, hlo, hhi, hraised⟩ := h
  exact ⟨code, info, hlo, hhi, raised_of_raised_afterFetch hraised⟩

/-- The frame of an instruction that writes registers only is that of one that completes. -/
theorem completed_of_keepsMachine {i : Instr} {s t : State} (hi : i ≠ .halt) (h : KeepsMachine s t) :
    Completed i s t where
  pc := h.pc
  cause := h.cause
  fpc := h.fpc
  finfo := h.finfo
  rs _ := h.rs
  rsHalt e := absurd e hi

theorem completed_storeBytes {i : Instr} (s : State) (ea : Word) (x : Vec) (hi : i ≠ .halt) :
    Completed i s (advance (storeBytes s ea x)) where
  pc := (toNat_advance_pc _).trans (by rw [storeBytes_pc])
  cause := by rw [advance_cause, storeBytes_cause]
  fpc := by rw [advance_fpc, storeBytes_fpc]
  finfo := by rw [advance_finfo, storeBytes_finfo]
  rs _ := by rw [advance_rs, storeBytes_rs]
  rsHalt e := absurd e hi

theorem completed_halt (s : State) : Completed .halt s (advance { s with rs := .halted }) where
  pc := toNat_advance_pc _
  cause := rfl
  fpc := rfl
  finfo := rfl
  rs h := absurd rfl h
  rsHalt _ := rfl

theorem completed_of_completed_afterFetch {i : Instr} {s t : State} (h : Completed i (afterFetch s) t) :
    Completed i s t := by
  obtain ⟨n, hn⟩ := afterFetch_eq_with_draws s
  rw [hn] at h
  exact { h with }

/-- Every instruction completes or faults (R310): only loads and stores can fault, by R44's check. -/
theorem exec_completes_or_faults (i : Instr) (s : State) :
    ∃ t, exec i s = .next t ∧ (Faulted s t ∨ Completed i s t) := by
  rcases exec_cases i s with ⟨hi, rd, x, e⟩ | ⟨hi, rd, x, e⟩ | ⟨hi, rd, ea, e⟩ | ⟨hi, ea, x, e⟩ | ⟨rfl, e⟩
  · exact ⟨_, e, .inr (completed_of_keepsMachine hi (onlyV_doneV s rd x).toKeepsMachine)⟩
  · exact ⟨_, e, .inr (completed_of_keepsMachine hi (onlyS_doneS s rd x).toKeepsMachine)⟩
  · rcases loadVec_cases s rd ea with ⟨-, e'⟩ | ⟨-, e'⟩
    · exact ⟨_, e.trans e', .inr (completed_of_keepsMachine hi (onlyV_spendDraw s _ _ rd _).toKeepsMachine)⟩
    · exact ⟨_, e.trans e', .inl (faulted_raise s _)⟩
  · rcases storeVec_cases s ea x with ⟨-, e'⟩ | ⟨-, e'⟩
    · exact ⟨_, e.trans e', .inr (completed_storeBytes s ea x hi)⟩
    · exact ⟨_, e.trans e', .inl (faulted_raise s _)⟩
  · exact ⟨_, e, .inr (completed_halt s)⟩

/-- Every step of a running block faults, or its fetch passes the checks of R313 and the decoded instruction completes. -/
theorem step_faults_or_completes {s : State} (hrun : s.rs = .running) :
    ∃ t, step s = .next t ∧ (Faulted s t ∨
      s.pc.toNat + 3 < s.params.imemSize ∧ ∃ i, decode (fetchWord s) = .ok i ∧ Completed i s t) := by
  rcases step_cases hrun with ⟨-, e⟩ | ⟨-, -, e⟩ | ⟨-, hin, ⟨c, -, e⟩ | ⟨i, hdec, e⟩⟩
  · exact ⟨_, e, .inl (faulted_raise s _)⟩
  · exact ⟨_, e, .inl (faulted_raise s _)⟩
  · exact ⟨_, e, .inl (faulted_of_faulted_afterFetch (faulted_raise _ _))⟩
  · obtain ⟨t, ht, hfault | hdone⟩ := exec_completes_or_faults i (afterFetch s)
    · exact ⟨t, e.trans ht, .inl (faulted_of_faulted_afterFetch hfault)⟩
    · exact ⟨t, e.trans ht, .inr ⟨hin, i, hdec, completed_of_completed_afterFetch hdone⟩⟩

/-- Settles O9: a step faults, or the decoded instruction completes; only `halt` ends the run by completing. -/
theorem stepCompletesOrFaults : Obligations.StepCompletesOrFaults := by
  intro s hrun
  obtain ⟨t, ht, hfault | ⟨-, i, hdec, hdone⟩⟩ := step_faults_or_completes hrun
  · exact ⟨t, ht, .inl hfault⟩
  · refine ⟨t, ht, .inr ⟨hdone.pc, hdone.cause, hdone.fpc, hdone.finfo, ?_⟩⟩
    rw [hdec]
    by_cases hi : i = .halt
    · exact .inr ⟨hdone.rsHalt hi, congrArg _ hi⟩
    · exact .inl ⟨(hdone.rs hi).trans hrun, fun e => hi (Except.ok.inj e)⟩

/-! ### The order of the checks (R313) -/

section
variable {s : State} (hrun : s.rs = .running)
include hrun

theorem step_of_misaligned (h : s.pc.toNat % 4 ≠ 0) : step s = .next (raise s (.fetchMisaligned s.pc)) := by
  rcases step_cases hrun with ⟨-, e⟩ | ⟨halign, -⟩ | ⟨halign, -⟩
  · exact e
  · exact absurd halign h
  · exact absurd halign h

theorem step_of_fetch_outside (halign : s.pc.toNat % 4 = 0) (hout : s.params.imemSize ≤ s.pc.toNat + 3) :
    step s = .next (raise s (.fetchFault s.pc)) := by
  rcases step_cases hrun with ⟨hmis, -⟩ | ⟨-, -, e⟩ | ⟨-, hin, -⟩
  · exact absurd halign hmis
  · exact e
  · exact absurd hin hout.not_gt

theorem step_of_illegal (halign : s.pc.toNat % 4 = 0) (hin : s.pc.toNat + 3 < s.params.imemSize) {c}
    (hdec : decode (fetchWord s) = .error c) :
    step s = .next (raise (afterFetch s) (.illegalInstruction (fetchWord s))) := by
  rcases step_cases hrun with ⟨hmis, -⟩ | ⟨-, hout, -⟩ | ⟨-, -, ⟨-, -, e⟩ | ⟨i, hi, -⟩⟩
  · exact absurd halign hmis
  · exact absurd hin hout.not_gt
  · exact e
  · rw [hdec] at hi; cases hi

end

/-- Settles O5: the checks of the fetch come first, and R44's check is the decoded instruction's own. -/
theorem stepFaultsInOrderOfPriority : Obligations.StepFaultsInOrderOfPriority := by
  intro s hrun
  refine ⟨fun hmis => ⟨_, step_of_misaligned hrun hmis, raised_raise s _⟩,
    fun halign hout => ⟨_, step_of_fetch_outside hrun halign hout, raised_raise s _⟩,
    fun halign hin => ⟨fun c hdec => ⟨_, step_of_illegal hrun halign hin hdec, ?illegal⟩,
      fun i hdec => ⟨step_of_decode hrun halign hin hdec, fun r ra imm8 hi hout => ?access⟩⟩⟩
  case illegal => exact raised_of_raised_afterFetch (raised_raise _ _)
  case access =>
    have hfault := outOfBoundsAccessFaults (afterFetch s) r ra imm8 i hi
    rw [readS_afterFetch, afterFetch_params] at hfault
    obtain ⟨t, ht, hraised⟩ := hfault hout
    exact ⟨t, (step_of_decode hrun halign hin hdec).trans ht, raised_of_raised_afterFetch hraised⟩

/-! ### Every run ends (R346) -/

/-- A step ends the run, or it moves `pc` by one word inside instruction memory. -/
theorem step_ends_or_advances {s : State} (hrun : s.rs = .running) (hsize : s.params.imemSize < 2 ^ 32) :
    ∃ t, step s = .next t ∧ (t.Ended ∨ t.rs = .running ∧ t.params = s.params ∧
      t.pc.toNat = s.pc.toNat + 4 ∧ s.pc.toNat + 4 ≤ s.params.imemSize) := by
  obtain ⟨t, ht, ⟨code, info, -, -, hraised⟩ | ⟨hin, i, -, hdone⟩⟩ := step_faults_or_completes hrun
  · exact ⟨t, ht, .inl (by simp [State.Ended, hraised.rs])⟩
  · refine ⟨t, ht, ?_⟩
    by_cases hi : i = .halt
    · exact .inl (by simp [State.Ended, hdone.rsHalt hi])
    · have hpc := hdone.pc
      exact .inr ⟨(hdone.rs hi).trans hrun, (step_imem_params ht).2, by omega, by omega⟩

/-- A run goes on from the state after its first step. -/
theorem run_succ (M : Host.Core) {s t : M.State} (k : Nat) (h : M.step s = .next t) : M.run (k + 1) s = M.run k t := by
  rw [Host.Core.run, h]

/-- With at most `n` whole words from `pc` to the end of instruction memory, a run ends within `n + 1` steps: each step
uses up a word, and past the last word the fetch faults. -/
theorem run_ends_within (n : Nat) : ∀ s : State, s.rs = .running → s.params.imemSize < 2 ^ 32 →
    (s.params.imemSize - s.pc.toNat) / 4 ≤ n →
    ∃ k ≤ n + 1, ∃ t : State, Host.Core.run core k s = .next t ∧ t.Ended := by
  induction n with
  | zero =>
    intro s hrun hsize hn
    obtain ⟨t, ht, hend | ⟨-, -, -, hin⟩⟩ := step_ends_or_advances hrun hsize
    · exact ⟨1, le_rfl, t, run_succ core 0 ht, hend⟩
    · omega
  | succ n ih =>
    intro s hrun hsize hn
    obtain ⟨t, ht, hend | ⟨hrun', hparams, hpc, hin⟩⟩ := step_ends_or_advances hrun hsize
    · exact ⟨1, by omega, t, run_succ core 0 ht, hend⟩
    · obtain ⟨k, hk, u, hu, hend⟩ := ih t hrun' (by rw [hparams]; exact hsize) (by rw [hparams, hpc]; omega)
      exact ⟨k + 1, by omega, u, (run_succ core k ht).trans hu, hend⟩

/-- Settles O10: the words from `pc` to the end of instruction memory bound the run. -/
theorem everyRunEnds : Obligations.EveryRunEnds := fun s hrun _ hsize => run_ends_within _ s hrun hsize le_rfl

end Sys2Proof.Machine
end

section
namespace Sys2Proof.Machine

/-! ## The host port (R26, R325) -/

theorem hostWrite_of_idle {s : State} (s' : State) (h : s.rs ≠ .running) : hostWrite s s' = .next s' := if_neg h

theorem hostWrite_of_running {s : State} (s' : State) (h : s.rs = .running) :
    hostWrite s s' = .refused .hostMoveWhileRunning := if_pos h

/-! ### A byte range (R325) -/

theorem rangeInside_iff {size addr n : Nat} : rangeInside size addr n = true ↔ addr + n ≤ size := decide_eq_true_iff

theorem map_fst_rangeCells (addr : Nat) (bytes : List Byte) :
    (rangeCells addr bytes).map Prod.fst = (List.range bytes.length).map fun k => addr + k :=
  List.map_fst_zip (by simp)

/-- The addresses of a byte range are distinct. -/
theorem nodup_rangeCells (addr : Nat) (bytes : List Byte) : ((rangeCells addr bytes).map Prod.fst).Nodup := by
  rw [map_fst_rangeCells]
  exact List.nodup_range.map (add_right_injective addr)

theorem mem_rangeCells {addr : Nat} {bytes : List Byte} {k : Nat} (hk : k < bytes.length) :
    (addr + k, bytes[k]) ∈ rangeCells addr bytes :=
  List.mem_iff_getElem.2 ⟨k, by simpa [rangeCells] using hk, by simp [rangeCells]⟩

/-- Byte `k` of a range is written at `addr + k`, and every other byte is kept (R325). -/
theorem readCell_writeCells_rangeCells (m : Memory) (addr : Nat) (bytes : List Byte) (a : Nat) :
    readCell (writeCells m (rangeCells addr bytes)) a =
      if addr ≤ a ∧ a < addr + bytes.length then bytes[a - addr]? else readCell m a := by
  split_ifs with hin
  · obtain ⟨k, rfl⟩ := Nat.exists_eq_add_of_le hin.1
    have hk : k < bytes.length := by omega
    rw [readCell_writeCells_of_mem m _ (nodup_rangeCells addr bytes) (mem_rangeCells hk), Nat.add_sub_cancel_left,
      List.getElem?_eq_getElem hk]
  · refine readCell_writeCells_of_not_mem m _ fun c hc hca => hin ?_
    have hmem : c.1 ∈ (rangeCells addr bytes).map Prod.fst := List.mem_map_of_mem hc
    rw [map_fst_rangeCells, List.mem_map] at hmem
    obtain ⟨k, hk, hkc⟩ := hmem
    have hk : k < bytes.length := List.mem_range.1 hk
    omega

/-! ### The moves (R325) -/

/-- What a byte range written to one of the memories does, `get` reading that memory of a state and `put` replacing it in
`s`: the bytes inside the memory are written, and a range that leaves it is turned away whole (R325, log 19). -/
theorem rangeWrite_spec {s : State} (get : State → Memory) (put : Memory → State) (hget : ∀ m, get (put m) = m)
    (hput : put (get s) = s) (size addr : Nat) (bytes : List Byte) {t : State}
    (ht : t = if rangeInside size addr bytes.length then put (writeCells (get s) (rangeCells addr bytes)) else s) :
    t = put (get t) ∧
      (addr + bytes.length ≤ size → ∀ a, readCell (get t) a =
        if addr ≤ a ∧ a < addr + bytes.length then bytes[a - addr]? else readCell (get s) a) ∧
      (size < addr + bytes.length → t = s) := by
  by_cases hin : addr + bytes.length ≤ size
  · rw [if_pos (rangeInside_iff.2 hin)] at ht
    rw [ht, hget]
    exact ⟨rfl, fun _ => readCell_writeCells_rangeCells (get s) addr bytes, fun hout => absurd hin hout.not_ge⟩
  · rw [if_neg (mt rangeInside_iff.1 hin)] at ht
    rw [ht]
    exact ⟨hput.symm, fun h => absurd h hin, fun _ => rfl⟩

/-- START runs a halted block and is ignored otherwise (R325). -/
theorem hostMove_start (s : State) :
    (s.rs = .halted → hostMove .start s = .next { s with rs := .running, runStores := [] }) ∧
      (s.rs ≠ .halted → hostMove .start s = .next s) :=
  ⟨fun h => congrArg Host.Outcome.next (if_pos h), fun h => congrArg Host.Outcome.next (if_neg h)⟩

/-- STATUS has `RS` in its low two bits and `BK` above them (R26). -/
theorem toNat_statusWord (s : State) :
    (statusWord s).toNat = (runStateCode s.rs).toNat + 4 * (backendCode s.params.backend).toNat := by
  rw [statusWord]
  cases s.rs <;> cases s.params.backend <;> rfl

theorem toNat_causeWord (s : State) : (causeWord s).toNat = s.cause.toNat :=
  BitVec.toNat_setWidth_of_le (by decide)

/-- Settles O58, move by move. -/
theorem hostMovesWriteWhatTheySay : Obligations.HostMovesWriteWhatTheySay := by
  refine ⟨hostMove_start, fun s hidle => ⟨fun x => ?pc, fun r x => ?v, fun r x => ?s,
    fun addr bytes => ?data, fun addr bytes => ?instr⟩, fun s x r y q z addr bytes hrun => ?running,
    fun s => ⟨toNat_statusWord s, toNat_causeWord s⟩⟩
  case pc => exact hostWrite_of_idle _ hidle
  case v =>
    exact ⟨_, hostWrite_of_idle _ hidle, readV_writeV_self s r x, fun q => readV_writeV_of_ne s x, rfl⟩
  case s =>
    exact ⟨_, hostWrite_of_idle _ hidle, readS_writeS_self s r x, fun q => readS_writeS_of_ne s x, rfl⟩
  case data =>
    exact ⟨_, hostWrite_of_idle _ hidle,
      rangeWrite_spec State.dmem (fun m => { s with dmem := m }) (fun _ => rfl) rfl s.params.memSize addr bytes rfl⟩
  case instr =>
    exact ⟨_, hostWrite_of_idle _ hidle,
      rangeWrite_spec State.imem (fun m => { s with imem := m }) (fun _ => rfl) rfl s.params.imemSize addr bytes rfl⟩
  case running =>
    refine List.forall_iff_forall_mem.1 ⟨?_, ?_, ?_, ?_, ?_⟩ <;> exact hostWrite_of_running _ hrun

end Sys2Proof.Machine
end

section
namespace Sys2Proof.Machine

/-! ## Mask conversions and the identities of the compares (R229, R230, R240, R241, R243) -/

/-! ### Lanes of the widening and narrowing formats (R280) -/

/-- The low two lanes of a narrowed value are the lane function's results, the upper two are zero. -/
theorem lowLanes32_narrow {P : Nat → BitVec 32 → Prop} {f : BitVec 64 → BitVec 32} {x : Vec}
    (h : ∀ j, P j (f (lane 64 x j))) : LowLanes32 P (narrow f x) := by
  refine ⟨?_, ?_, lane_narrow f x (by decide), lane_narrow f x (by decide)⟩
  · rw [lane_narrow f x (by decide)]; exact h 0
  · rw [lane_narrow f x (by decide)]; exact h 1

theorem lanes64_widen {P : Nat → BitVec 64 → Prop} {f : BitVec 32 → BitVec 64} {x : Vec}
    (h : ∀ j, P j (f (lane 32 x j))) : Lanes64 P (widen f x) := lanes64_lanes64 fun j _ => h j

/-- Settles O47: four instructions widen with one lane function, four narrow with one. -/
theorem maskConversions : Obligations.MaskConversions := by
  intro s rd ra
  refine ⟨?widening, ?narrowing⟩
  case widening => exact completesV_of_forall ⟨rfl, rfl, rfl, rfl⟩ (lanes64_widen fun _ => rfl)
  case narrowing => exact completesV_of_forall ⟨rfl, rfl, rfl, rfl⟩ (lowLanes32_narrow fun _ => toNat_low32 _)

/-! ### The masks of an order (R230, R243) -/

/-- The laws of the five ordered compares, on one lane or on a register: `le` and `ge` are complements, and of `lt`, `eq`
and `gt` exactly one is true (R230, R243). -/
structure OrderMasks {W : Nat} (lt le eq ge gt : BitVec W) : Prop where
  le_not : le = ~~~gt
  ge_not : ge = ~~~lt
  cover : lt ^^^ eq ^^^ gt = BitVec.allOnes W
  lt_eq : lt &&& eq = 0
  lt_gt : lt &&& gt = 0
  eq_gt : eq &&& gt = 0

/-- The masks of the comparisons of two integers obey the laws. -/
theorem orderMasks_maskLane (W : Nat) (x y : ℤ) :
    OrderMasks (maskLane W (x < y)) (maskLane W (x ≤ y)) (maskLane W (x = y)) (maskLane W (x ≥ y))
      (maskLane W (x > y)) := by
  rcases lt_trichotomy x y with h | h | h
  · constructor <;> simp [h, h.le, h.ne, h.not_gt, h.not_ge]
  · constructor <;> simp [h]
  · constructor <;> simp [h, h.le, h.ne', h.not_gt, h.not_ge]

theorem allOnes_append_allOnes (m n : Nat) : BitVec.allOnes m ++ BitVec.allOnes n = BitVec.allOnes (m + n) := by
  ext i hi
  simp [BitVec.getElem_append]

theorem zero_append_zero (m n : Nat) : (0 : BitVec m) ++ (0 : BitVec n) = 0 := by
  ext i hi
  simp

/-- The laws hold of the lanes side by side if they hold of each. -/
theorem OrderMasks.append {m n : Nat} {lt le eq ge gt : BitVec m} {lt' le' eq' ge' gt' : BitVec n}
    (h : OrderMasks lt le eq ge gt) (h' : OrderMasks lt' le' eq' ge' gt') :
    OrderMasks (lt ++ lt') (le ++ le') (eq ++ eq') (ge ++ ge') (gt ++ gt') where
  le_not := by rw [BitVec.not_append, h.le_not, h'.le_not]
  ge_not := by rw [BitVec.not_append, h.ge_not, h'.ge_not]
  cover := by rw [BitVec.xor_append, BitVec.xor_append, h.cover, h'.cover, allOnes_append_allOnes]
  lt_eq := by rw [BitVec.and_append, h.lt_eq, h'.lt_eq, zero_append_zero]
  lt_gt := by rw [BitVec.and_append, h.lt_gt, h'.lt_gt, zero_append_zero]
  eq_gt := by rw [BitVec.and_append, h.eq_gt, h'.eq_gt, zero_append_zero]

/-- The laws hold of the registers that lane-wise compares write if they hold in every lane. -/
theorem orderMasks_zip32 {lt le eq ge gt : BitVec 32 → BitVec 32 → BitVec 32}
    (h : ∀ a b, OrderMasks (lt a b) (le a b) (eq a b) (ge a b) (gt a b)) (x y : Vec) :
    OrderMasks (zip32 lt x y) (zip32 le x y) (zip32 eq x y) (zip32 ge x y) (zip32 gt x y) :=
  (((h _ _).append (h _ _)).append (h _ _)).append (h _ _)

theorem orderMasks_zip64 {lt le eq ge gt : BitVec 64 → BitVec 64 → BitVec 64}
    (h : ∀ a b, OrderMasks (lt a b) (le a b) (eq a b) (ge a b) (gt a b)) (x y : Vec) :
    OrderMasks (zip64 lt x y) (zip64 le x y) (zip64 eq x y) (zip64 ge x y) (zip64 gt x y) :=
  (h _ _).append (h _ _)

/-- The masks of the signed comparisons of two lanes obey the laws; equal lanes are equal signed numbers. -/
theorem orderMasks_of_toInt {W : Nat} (a b : BitVec W) :
    OrderMasks (maskLane W (a.toInt < b.toInt)) (maskLane W (a.toInt ≤ b.toInt)) (maskLane W (a = b))
      (maskLane W (a.toInt ≥ b.toInt)) (maskLane W (a.toInt > b.toInt)) := by
  have heq : decide (a = b) = decide (a.toInt = b.toInt) := decide_eq_decide.2 BitVec.toInt_inj.symm
  rw [heq]
  exact orderMasks_maskLane W a.toInt b.toInt

theorem ordered_of_not_nan {W : Nat} (holds : ℤ → ℤ → Bool) {a b : BitVec W}
    (ha : isNaN a = false) (hb : isNaN b = false) : ordered holds a b = holds (scaled a) (scaled b) := by
  rw [ordered, ha, hb, Bool.or_false, Bool.not_false, Bool.true_and]

theorem ordered_of_nan {W : Nat} (holds : ℤ → ℤ → Bool) {a b : BitVec W}
    (h : isNaN a = true ∨ isNaN b = true) : ordered holds a b = false := by
  rw [ordered, Bool.or_eq_true_iff.2 h, Bool.not_true, Bool.false_and]

/-- Without a NaN the float compares obey the laws: they compare the numbers of units. -/
theorem orderMasks_of_not_nan {W : Nat} {a b : BitVec W} (ha : isNaN a = false) (hb : isNaN b = false) :
    OrderMasks (maskLane W (flt a b)) (maskLane W (fle a b)) (maskLane W (feq a b)) (maskLane W (fge a b))
      (maskLane W (fgt a b)) := by
  simp only [flt, fle, feq, fge, fgt, ordered_of_not_nan _ ha hb]
  exact orderMasks_maskLane W (scaled a) (scaled b)

/-- With a NaN the ordered float compares are all false (R16). -/
theorem orderMasks_false_of_nan {W : Nat} {a b : BitVec W} (h : isNaN a = true ∨ isNaN b = true) :
    maskLane W (flt a b) = 0 ∧ maskLane W (fle a b) = 0 ∧ maskLane W (feq a b) = 0 ∧ maskLane W (fge a b) = 0 ∧
      maskLane W (fgt a b) = 0 := by
  simp only [flt, fle, feq, fge, fgt, ordered_of_nan _ h, maskLane_false, and_self]

/-- `fne` is the complement of `feq`, NaN or not (R16, R229). -/
theorem fne_eq_not_feq {W : Nat} (a b : BitVec W) : fne a b = !feq a b := by
  rw [fne, feq, ordered, Bool.not_and, Bool.not_not, decide_not]

theorem not_pack32 (a b c d : BitVec 32) : ~~~pack32 a b c d = pack32 (~~~a) (~~~b) (~~~c) (~~~d) := by
  change ~~~(a ++ b ++ c ++ d : BitVec (32 + 32 + 32 + 32)) = ~~~a ++ ~~~b ++ ~~~c ++ ~~~d
  rw [BitVec.not_append, BitVec.not_append, BitVec.not_append]

theorem not_zip32 (f : BitVec 32 → BitVec 32 → BitVec 32) (x y : Vec) :
    ~~~zip32 f x y = zip32 (fun a b => ~~~f a b) x y := not_pack32 ..

/-! ### Mask conversions there and back (R243) -/

theorem low32_append (x y : BitVec 32) : low32 (x ++ y) = y := BitVec.extractLsb'_append_eq_right

/-- A mask widened and narrowed again keeps lanes 0 and 1, and lanes 2 and 3 are zero. -/
theorem narrow_widen_mask (x : Vec) :
    LowLanes32 (fun j r => r = lane 32 x j) (narrow low32 (widen (fun y => y ++ y) x)) := by
  refine ⟨?_, ?_, lane_narrow _ _ (by decide), lane_narrow _ _ (by decide)⟩
  · rw [lane_narrow _ _ (by decide), if_pos (by decide), lane_widen _ _ (by decide), low32_append]
  · rw [lane_narrow _ _ (by decide), if_pos (by decide), lane_widen _ _ (by decide), low32_append]

/-- Settles O48: the compares write lane-wise masks of an order, on integers or on numbers of units. -/
theorem compareAndMaskIdentities : Obligations.CompareAndMaskIdentities := by
  refine ⟨fun s rd ra rb => ⟨_, _, _, _, _, _, rfl, rfl, rfl, rfl, rfl, rfl, ?pi32⟩,
    fun s rd ra rb => ⟨_, _, _, _, _, _, rfl, rfl, rfl, rfl, rfl, rfl, ?pi64⟩,
    fun s rd ra rb => ⟨_, _, _, _, _, _, rfl, rfl, rfl, rfl, rfl, rfl, ?ps⟩,
    fun s rd ra rb => ⟨_, _, _, _, _, _, rfl, rfl, rfl, rfl, rfl, rfl, ?pd⟩,
    fun s rd rq ra => ⟨_, _, rfl, rfl, ?thereAndBack⟩⟩
  case pi32 =>
    simp only [readV_advance, readV_writeV_self]
    have h := orderMasks_zip32 orderMasks_of_toInt (readV s ra) (readV s rb)
    refine ⟨h.le_not, h.ge_not, ?_, h.cover, h.lt_eq, h.lt_gt, h.eq_gt⟩
    simp only [not_zip32, not_maskLane, ← decide_not, ne_eq]
  case pi64 =>
    simp only [readV_advance, readV_writeV_self]
    have h := orderMasks_zip64 orderMasks_of_toInt (readV s ra) (readV s rb)
    refine ⟨h.le_not, h.ge_not, ?_, h.cover, h.lt_eq, h.lt_gt, h.eq_gt⟩
    simp only [not_zip64, not_maskLane, ← decide_not, ne_eq]
  case ps =>
    simp only [readV_advance, readV_writeV_self, v32_advance_writeV, not_zip32, not_maskLane, fne_eq_not_feq, true_and]
    intro j hj
    simp only [lane_zip32 _ _ _ hj]
    refine ⟨fun hn => ?_, orderMasks_false_of_nan⟩
    have h := orderMasks_of_not_nan hn.1 hn.2
    exact ⟨h.le_not, h.ge_not, h.cover, h.lt_eq, h.lt_gt, h.eq_gt⟩
  case pd =>
    simp only [readV_advance, readV_writeV_self, v64_advance_writeV, not_zip64, not_maskLane, fne_eq_not_feq, true_and]
    intro j hj
    simp only [lane_zip64 _ _ _ hj]
    refine ⟨fun hn => ?_, orderMasks_false_of_nan⟩
    have h := orderMasks_of_not_nan hn.1 hn.2
    exact ⟨h.le_not, h.ge_not, h.cover, h.lt_eq, h.lt_gt, h.eq_gt⟩
  case thereAndBack =>
    simp only [v32_advance_writeV, readV_advance, readV_writeV_self]
    exact narrow_widen_mask (readV s ra)

end Sys2Proof.Machine
end

section
namespace Sys2Proof.Machine

/-! ## A pattern is determined by its value (R11, R12) -/

/-- Successive numbers below the sign are successive magnitudes, across the steps of the exponent too. -/
theorem magOfBits_strictMono (m : Nat) : StrictMono (magOfBits m) := by
  refine strictMono_nat_of_lt_succ fun n => ?_
  have hm : 0 < 2 ^ m := Nat.two_pow_pos m
  have hmod := Nat.mod_lt n hm
  have hdiv := Nat.div_add_mod' n (2 ^ m)
  have hpow : 2 ^ (m + 1) = 2 ^ m + 2 ^ m := by rw [pow_succ]; omega
  obtain ⟨e, r, hn, hlo, hhi⟩ : ∃ e r, n = e * 2 ^ m + r ∧ (e = 0 ∨ 2 ^ m ≤ r) ∧ r < 2 ^ (m + 1) := by
    rcases Nat.eq_zero_or_eq_succ_pred (n / 2 ^ m) with h0 | hs
    · exact ⟨0, n % 2 ^ m, by rw [h0] at hdiv; omega, .inl rfl, by omega⟩
    · refine ⟨(n / 2 ^ m).pred, 2 ^ m + n % 2 ^ m, ?_, .inr (Nat.le_add_right _ _), by omega⟩
      rw [hs, Nat.succ_mul] at hdiv
      omega
  rw [hn, Nat.add_assoc, magOfBits_grid hlo hhi.le, magOfBits_grid (hlo.imp_right fun h => h.trans (Nat.le_succ r)) hhi]
  exact Nat.mul_lt_mul_of_pos_right (Nat.lt_succ_self r) (Nat.two_pow_pos e)

/-- The sign of a pattern that is no zero is that of the number it reads as (R12). -/
theorem signOf_eq_of_magnitude_ne_zero {W : Nat} {b : BitVec W} (h : magnitude b ≠ 0) :
    signOf b = decide (scaled b < 0) := by
  rw [scaled]
  split_ifs with hs
  · rw [hs, eq_comm, decide_eq_true_iff]; omega
  · rw [Bool.eq_false_iff.2 hs, eq_comm, decide_eq_false_iff_not]; omega

section
variable {W : Nat} (hW : W = 32 ∨ W = 64) {a b : BitVec W}
include hW

/-- The bits below the sign are the exponent field above the fraction field (R11). -/
theorem toNat_mod_sign_eq (b : BitVec W) :
    b.toNat % 2 ^ (W - 1) = expField b * 2 ^ fracBits W + fracField b := by
  obtain ⟨-, hbits, -, -, -, -⟩ := format_facts hW
  rw [expField_eq, fracField_eq, ← hbits, pow_add, Nat.mod_mul, Nat.add_comm, Nat.mul_comm]

/-- Patterns with the same sign and the same bits below it are equal. -/
theorem eq_of_signOf_of_mod (hs : signOf a = signOf b) (h : a.toNat % 2 ^ (W - 1) = b.toNat % 2 ^ (W - 1)) :
    a = b := by
  have hdouble : 2 ^ W = 2 ^ (W - 1) + 2 ^ (W - 1) := by rcases hW with rfl | rfl <;> norm_num
  have hsplit : ∀ c : BitVec W, c.toNat = c.toNat % 2 ^ (W - 1) + if signOf c then 2 ^ (W - 1) else 0 := fun c => by
    have hlt := c.isLt
    split_ifs with hc
    · rw [signOf_iff] at hc
      rw [Nat.mod_eq_sub_mod hc, Nat.mod_eq_of_lt (by omega)]
      omega
    · rw [signOf_iff] at hc
      rw [Nat.mod_eq_of_lt (by omega), Nat.add_zero]
  exact BitVec.eq_of_toNat_eq (by rw [hsplit a, hsplit b, hs, h])

/-- A pattern is determined by its three fields (R11). -/
theorem eq_of_fields (hs : signOf a = signOf b) (he : expField a = expField b) (hf : fracField a = fracField b) :
    a = b :=
  eq_of_signOf_of_mod hW hs (by rw [toNat_mod_sign_eq hW, toNat_mod_sign_eq hW, he, hf])

/-- Patterns that read as the same number are equal, but for zeros of opposite sign. -/
theorem eq_of_scaled_eq (h : scaled a = scaled b) (hopp : ¬OppositeZeros a b) : a = b := by
  have hmag : magnitude a = magnitude b := by rw [← natAbs_scaled, h, natAbs_scaled]
  by_cases h0 : magnitude a = 0
  · by_contra hne
    exact hopp ⟨magnitude_eq_zero_iff.1 h0, magnitude_eq_zero_iff.1 (hmag ▸ h0), hne⟩
  · refine eq_of_signOf_of_mod hW ?_ ?_
    · rw [signOf_eq_of_magnitude_ne_zero h0, signOf_eq_of_magnitude_ne_zero (hmag ▸ h0), h]
    · rw [magnitude_eq, magnitude_eq] at hmag
      rw [toNat_mod_sign_eq hW, toNat_mod_sign_eq hW]
      exact (magOfBits_strictMono _).injective hmag

/-- Zeros of opposite sign have one value. -/
theorem extVal_eq_of_oppositeZeros (ha : isNaN a = false) (hb : isNaN b = false) (h : OppositeZeros a b) :
    extVal a = extVal b := by
  obtain ⟨hza, hzb, -⟩ := h
  rw [← scaled_eq_iff hW ha hb, scaled_eq_zero_iff.2 hza, scaled_eq_zero_iff.2 hzb]

/-- Patterns of one value that are neither NaNs nor zeros of opposite sign are equal. -/
theorem eq_of_extVal_eq (ha : isNaN a = false) (hb : isNaN b = false) (h : extVal a = extVal b)
    (hopp : ¬OppositeZeros a b) : a = b :=
  eq_of_scaled_eq hW ((scaled_eq_iff hW ha hb).2 h) hopp

end

end Sys2Proof.Machine
end

section
namespace Sys2Proof.Machine

/-! ## Choose, minimum, maximum and constrain (R256 to R265) -/

/-! ### choose (R256, R258) -/

theorem chooseLane_true {p : Params} {op : BitVec 8} {k : Kind} {W : Nat} {m : BitVec W} (t f : BitVec W)
    (h : m = BitVec.allOnes W) : chooseLane p op k m t f = t := if_pos h

theorem chooseLane_false {p : Params} {op : BitVec 8} {k : Kind} {W : Nat} (hW : 0 < W) {m : BitVec W} (t f : BitVec W)
    (h : m = 0) : chooseLane p op k m t f = f := by
  have hne : m ≠ BitVec.allOnes W := fun e => hW.ne' (BitVec.zero_eq_allOnes_iff.1 (h.symm.trans e))
  rw [chooseLane, if_neg hne, if_pos h]

/-- Settles O49: the lane functions are `chooseLane`, for `choose_else_zero` with zero as its last operand. -/
theorem chooseFollowsTheMask : Obligations.ChooseFollowsTheMask := by
  have h32 : 0 < 32 := by decide
  have h64 : 0 < 64 := by decide
  intro s rd ra rb rc
  refine ⟨?choose32, ?choose64, ?elseZero32, ?elseZero64⟩ <;> refine List.forall_iff_forall_mem.1 ⟨?_, ?_⟩
  case choose32.refine_1 | choose32.refine_2 =>
    exact completesV_of_vvvv32 rfl fun _ => ⟨chooseLane_true _ _, chooseLane_false h32 _ _⟩
  case choose64.refine_1 | choose64.refine_2 =>
    exact completesV_of_vvvv64 rfl fun _ => ⟨chooseLane_true _ _, chooseLane_false h64 _ _⟩
  case elseZero32.refine_1 | elseZero32.refine_2 =>
    exact completesV_of_vvv32 rfl fun _ => ⟨chooseLane_true _ _, chooseLane_false h32 _ _⟩
  case elseZero64.refine_1 | elseZero64.refine_2 =>
    exact completesV_of_vvv64 rfl fun _ => ⟨chooseLane_true _ _, chooseLane_false h64 _ _⟩

/-! ### Integer minimum, maximum and constrain (R259, R260, R264) -/

theorem toInt_minLane {W : Nat} (a b : BitVec W) : (minLane a b).toInt = min a.toInt b.toInt := by
  rw [minLane, apply_ite BitVec.toInt, min_def]

theorem toInt_maxLane {W : Nat} (a b : BitVec W) : (maxLane a b).toInt = max a.toInt b.toInt := by
  rw [maxLane, apply_ite BitVec.toInt, max_comm, max_def]

theorem toInt_constrainLane {W : Nat} (lo hi x : BitVec W) :
    (minLane (maxLane lo x) hi).toInt = min (max lo.toInt x.toInt) hi.toInt := by
  rw [toInt_minLane, toInt_maxLane]

/-- Settles O50: the lane functions compare signed numbers. -/
theorem integerMinMaxConstrain : Obligations.IntegerMinMaxConstrain := by
  intro s rd ra rb rc
  refine ⟨?min32, ?min64, ?max32, ?max64, ?constrain32, ?constrain64⟩
  case min32 => exact completesV_of_vvv32 rfl fun _ => toInt_minLane _ _
  case min64 => exact completesV_of_vvv64 rfl fun _ => toInt_minLane _ _
  case max32 => exact completesV_of_vvv32 rfl fun _ => toInt_maxLane _ _
  case max64 => exact completesV_of_vvv64 rfl fun _ => toInt_maxLane _ _
  case constrain32 => exact completesV_of_vvvv32 rfl fun _ => toInt_constrainLane _ _ _
  case constrain64 => exact completesV_of_vvvv64 rfl fun _ => toInt_constrainLane _ _ _

/-! ### Float minimum and maximum (R261 to R263) -/

section
variable {W : Nat} {p : Params} {op : BitVec 8} {k : Kind} {a b : BitVec W}

/-- Zeros of opposite sign give a zero (R262). -/
theorem isZero_fastLane_of_oppositeZeros (hW : W = 32 ∨ W = 64) (defined : BitVec W) (ha : isNaN a = false)
    (hb : isNaN b = false) (h : OppositeZeros a b) : isZero (fastLane p op k defined a b) = true := by
  have hzero : (isZero a && isZero b && decide (a ≠ b)) = true := by simpa [OppositeZeros, and_assoc] using h
  rw [fastLane, ha, hb, if_neg (by decide), if_pos hzero]
  exact (isZero_zero hW _).1

/-- On any other pair without a NaN the lane is the defined one (R262). -/
theorem fastLane_of_defined (defined : BitVec W) (ha : isNaN a = false) (hb : isNaN b = false)
    (h : ¬OppositeZeros a b) : fastLane p op k defined a b = defined := by
  have hzero : ¬(isZero a && isZero b && decide (a ≠ b)) = true := by simpa [OppositeZeros] using h
  rw [fastLane, ha, hb, if_neg (by decide), if_neg hzero]

variable (hW : W = 32 ∨ W = 64)
include hW

theorem minFastResult_minFastLane (a b : BitVec W) : MinFastResult a b (minFastLane p k a b) := fun ha hb => by
  have hlt : flt a b = true ↔ extVal a < extVal b := by rw [flt_iff hW]; simp [ha, hb]
  refine ⟨isZero_fastLane_of_oppositeZeros hW _ ha hb, fun h => ?_⟩
  rw [minFastLane, fastLane_of_defined _ ha hb h, ← hlt]
  exact ⟨fun c => if_pos c, fun c => if_neg c⟩

theorem maxFastResult_maxFastLane (a b : BitVec W) : MaxFastResult a b (maxFastLane p k a b) := fun ha hb => by
  have hlt : flt a b = true ↔ extVal a < extVal b := by rw [flt_iff hW]; simp [ha, hb]
  refine ⟨isZero_fastLane_of_oppositeZeros hW _ ha hb, fun h => ?_⟩
  rw [maxFastLane, fastLane_of_defined _ ha hb h, ← hlt]
  exact ⟨fun c => if_pos c, fun c => if_neg c⟩

/-! ### Float constrain (R265) -/

/-- Where the pair is not open, a `min_fast` lane is its first operand if that is not above the second. -/
theorem eq_of_minFastResult_of_le {r : BitVec W} (ha : isNaN a = false) (hb : isNaN b = false)
    (hopp : ¬OppositeZeros a b) (h : MinFastResult a b r) (hle : extVal a ≤ extVal b) : r = a := by
  obtain ⟨-, hdefined⟩ := h ha hb
  obtain ⟨hfirst, hsecond⟩ := hdefined hopp
  rcases hle.lt_or_eq with hlt | heq
  · exact hfirst hlt
  · rw [hsecond heq.not_lt, eq_of_extVal_eq hW ha hb heq hopp]

/-- A `min_fast` lane is its second operand if that is below the first. -/
theorem eq_of_minFastResult_of_gt {r : BitVec W} (ha : isNaN a = false) (hb : isNaN b = false)
    (h : MinFastResult a b r) (hgt : extVal b < extVal a) : r = b := by
  have hopp : ¬OppositeZeros a b := fun ho => hgt.ne' (extVal_eq_of_oppositeZeros hW ha hb ho)
  exact ((h ha hb).2 hopp).2 hgt.not_gt

/-- Where the pair is not open, a `max_fast` lane is its second operand if that is not below the first. -/
theorem eq_of_maxFastResult_of_le {r : BitVec W} (ha : isNaN a = false) (hb : isNaN b = false)
    (hopp : ¬OppositeZeros a b) (h : MaxFastResult a b r) (hle : extVal a ≤ extVal b) : r = b := by
  obtain ⟨-, hdefined⟩ := h ha hb
  obtain ⟨hfirst, hsecond⟩ := hdefined hopp
  rcases hle.lt_or_eq with hlt | heq
  · exact hfirst hlt
  · rw [hsecond heq.not_lt, eq_of_extVal_eq hW ha hb heq hopp]

/-- A `max_fast` lane is its first operand if that is above the second. -/
theorem eq_of_maxFastResult_of_gt {r : BitVec W} (ha : isNaN a = false) (hb : isNaN b = false)
    (h : MaxFastResult a b r) (hgt : extVal b < extVal a) : r = a := by
  have hopp : ¬OppositeZeros a b := fun ho => hgt.ne' (extVal_eq_of_oppositeZeros hW ha hb ho)
  exact ((h ha hb).2 hopp).2 hgt.not_gt

/-- `min_fast` of `max_fast` clamps wherever neither pair is open (R265): the larger of `lo` and `x` is one of them. -/
theorem constrainFastResult_of_max_min {lo hi x m r : BitVec W} (hmax : MaxFastResult lo x m)
    (hmin : MinFastResult m hi r) : ConstrainFastResult lo hi x r := by
  refine ⟨⟨m, hmax, hmin⟩, fun hlo hhi hx hopp => ?_⟩
  rcases le_or_gt (extVal lo) (extVal x) with hle | hgt
  · obtain rfl : m = x := eq_of_maxFastResult_of_le hW hlo hx hopp hmax hle
    refine ⟨fun _ hxhi hopp' => ?_, fun hgt => absurd hle hgt.not_ge, fun h => ?_⟩
    · exact eq_of_minFastResult_of_le hW hx hhi hopp' hmin hxhi
    · exact eq_of_minFastResult_of_gt hW hx hhi hmin (h.elim id fun h => h.trans_le hle)
  · obtain rfl : m = lo := eq_of_maxFastResult_of_gt hW hlo hx hmax hgt
    refine ⟨fun hle => absurd hle hgt.not_ge, fun _ hlohi hopp' => ?_, fun h => ?_⟩
    · exact eq_of_minFastResult_of_le hW hlo hhi hopp' hmin hlohi
    · exact eq_of_minFastResult_of_gt hW hlo hhi hmin (h.elim (fun h => h.trans hgt) id)

theorem constrainFastResult_lane (lo hi x : BitVec W) :
    ConstrainFastResult lo hi x (minFastLane p k (maxFastLane p k lo x) hi) :=
  constrainFastResult_of_max_min hW (maxFastResult_maxFastLane hW lo x) (minFastResult_minFastLane hW _ hi)

end

/-- Settles O51: the lane functions are `minFastLane` and `maxFastLane`. -/
theorem floatMinMaxFast : Obligations.FloatMinMaxFast := by
  have h32 : (32 = 32 ∨ 32 = 64) := .inl rfl
  have h64 : (64 = 32 ∨ 64 = 64) := .inr rfl
  intro s rd ra rb
  refine ⟨?min32, ?min64, ?max32, ?max64⟩
  case min32 => exact completesV_of_vvv32 rfl fun _ => minFastResult_minFastLane h32 _ _
  case min64 => exact completesV_of_vvv64 rfl fun _ => minFastResult_minFastLane h64 _ _
  case max32 => exact completesV_of_vvv32 rfl fun _ => maxFastResult_maxFastLane h32 _ _
  case max64 => exact completesV_of_vvv64 rfl fun _ => maxFastResult_maxFastLane h64 _ _

/-- Settles O52: the lane function is `min_fast` of `max_fast`. -/
theorem floatConstrain : Obligations.FloatConstrain := by
  intro s rd ra rb rc
  refine ⟨?ps, ?pd⟩
  case ps => exact completesV_of_vvvv32 rfl fun _ => constrainFastResult_lane (.inl rfl) _ _ _
  case pd => exact completesV_of_vvvv64 rfl fun _ => constrainFastResult_lane (.inr rfl) _ _ _

end Sys2Proof.Machine
end

section
namespace Sys2Proof.Machine

/-! ## Exact rounding (R13)

A magnitude of a format is a number of fraction bits and one more, moved up by an exponent in range. Rounding keeps it,
and so do the conversions. -/

/-- `y` is a magnitude of the finite patterns of width `W` (R11). -/
def Fits (W : Nat) (y : ℚ) : Prop :=
  ∃ a k : ℕ, a < 2 ^ (fracBits W + 1) ∧ k ≤ expMax W - 2 ∧ y = (a * 2 ^ k : ℕ) * 2 ^ (-(unitExp W : ℤ))

/-- The magnitude of every finite pattern is one. -/
theorem fits_abs_val {W : Nat} (hW : W = 32 ∨ W = 64) {b : BitVec W} (h : Finite b) : Fits W |val b| := by
  have hval : |val b| = (magnitude b : ℚ) * 2 ^ (-(unitExp W : ℤ)) := by
    rw [val_eq_signed hW, abs_mul, abs_signed, abs_of_nonneg (Nat.cast_nonneg _), abs_of_pos (by positivity)]
  have hlt := fracField_lt b
  have hexp := finite_iff.1 h
  have hpow : 2 ^ (fracBits W + 1) = 2 ^ fracBits W + 2 ^ fracBits W := by rw [pow_succ]; omega
  rw [hval, magnitude]
  split_ifs with he
  · exact ⟨fracField b, 0, by omega, Nat.zero_le _, by rw [pow_zero, mul_one]⟩
  · exact ⟨2 ^ fracBits W + fracField b, expField b - 1, by omega, by omega, rfl⟩

/-- A unit of one width in units of another. -/
theorem two_zpow_neg_eq_mul (m d : ℕ) : (2 : ℚ) ^ (-(m : ℤ)) = ((2 ^ d : ℕ) : ℚ) * 2 ^ (-((m + d : ℕ) : ℤ)) := by
  rw [Nat.cast_pow, Nat.cast_ofNat, ← zpow_natCast, ← zpow_add₀ two_ne_zero]
  congr 1
  omega

/-- Every magnitude of binary32 is one of binary64 (R294). -/
theorem fits64_of_fits32 {y : ℚ} (h : Fits 32 y) : Fits 64 y := by
  obtain ⟨a, k, ha, hk, rfl⟩ := h
  simp only [fracBits_32, expMax_32] at ha hk
  refine ⟨a, k + 925, ?_, ?_, ?_⟩
  · rw [fracBits_64]; omega
  · rw [expMax_64]; omega
  · rw [unitExp_32, unitExp_64, two_zpow_neg_eq_mul 149 925, pow_add, ← mul_assoc, ← mul_assoc,
      Nat.cast_mul _ (2 ^ 925)]

/-- Every 32-bit integer is a binary64 value (R284, R296). -/
theorem fits64_abs_toInt (x : BitVec 32) : Fits 64 |(x.toInt : ℚ)| := by
  have hlo := x.le_toInt
  have hhi := x.toInt_lt
  refine ⟨x.toInt.natAbs, 1074, ?_, ?_, ?_⟩
  · rw [fracBits_64]; omega
  · rw [expMax_64]; omega
  · rw [unitExp_64, zpow_neg, Nat.cast_mul, Nat.cast_natAbs, Int.cast_abs, Nat.cast_pow, Nat.cast_ofNat,
      zpow_natCast, mul_assoc, mul_inv_cancel₀ (by positivity), mul_one]

section
variable {W : Nat} {a k den : Nat}

/-- The grid around a magnitude of the format has no steps greater than its exponent. -/
theorem gridExp_le_of_lt (ha : a < 2 ^ (fracBits W + 1)) (hden : 0 < den) : gridExp W (a * 2 ^ k * den) den ≤ k := by
  rw [gridExp, Nat.mul_div_cancel _ hden]
  by_cases h0 : a * 2 ^ k = 0
  · rw [h0, Nat.log2_zero]; omega
  · have hlt : a * 2 ^ k < 2 ^ (fracBits W + 1 + k) := by
      rw [pow_add]; exact Nat.mul_lt_mul_of_pos_right ha (Nat.two_pow_pos k)
    have hlog := (Nat.log2_lt h0).2 hlt
    omega

/-- A magnitude of the format lies on its grid. -/
theorem gridValue_of_lt (ha : a < 2 ^ (fracBits W + 1)) (hden : 0 < den) :
    gridValue W (a * 2 ^ k * den) den = a * 2 ^ k := by
  have hle := gridExp_le_of_lt (k := k) ha hden
  rw [gridValue, gridSteps]
  generalize gridExp W (a * 2 ^ k * den) den = e at hle
  obtain ⟨d, rfl⟩ := Nat.exists_eq_add_of_le hle
  rw [show a * 2 ^ (e + d) * den = a * 2 ^ d * (den * 2 ^ e) by rw [pow_add]; ring,
    rneDiv_exact _ (Nat.mul_pos hden (Nat.two_pow_pos e)), pow_add]
  ring

/-- Rounding a magnitude of the format does not overflow. -/
theorem finite_roundTo_of_lt (hW : W = 32 ∨ W = 64) (neg : Bool) (ha : a < 2 ^ (fracBits W + 1))
    (hk : k ≤ expMax W - 2) (hden : 0 < den) : Finite (roundTo W neg (a * 2 ^ k * den) den) := by
  obtain ⟨-, -, -, hmax, hbias, -⟩ := format_facts hW
  obtain ⟨K, hK⟩ : ∃ K, expMax W = K + 3 := ⟨expMax W - 3, by omega⟩
  rcases roundTo_infinite_or_finite hW neg (a * 2 ^ k * den) den with ⟨-, hover⟩ | ⟨hfin, -⟩
  · rw [expMax_le_round_iff hW _ hden, hK, Nat.add_sub_cancel] at hover
    have htop : (2 ^ (fracBits W + 2) - 1) * 2 ^ K ≤ a * 2 ^ k := Nat.le_of_mul_le_mul_right hover hden
    have hbelow : a * 2 ^ k < (2 ^ (fracBits W + 2) - 1) * 2 ^ K :=
      calc a * 2 ^ k ≤ (2 ^ (fracBits W + 1) - 1) * 2 ^ (K + 1) :=
            Nat.mul_le_mul (by omega) (Nat.pow_le_pow_right (by decide) (by omega))
        _ = (2 * (2 ^ (fracBits W + 1) - 1)) * 2 ^ K := by rw [pow_succ]; ring
        _ < (2 ^ (fracBits W + 2) - 1) * 2 ^ K := by
            refine Nat.mul_lt_mul_of_pos_right ?_ (Nat.two_pow_pos K)
            have hpos := Nat.two_pow_pos (fracBits W + 1)
            rw [pow_succ 2 (fracBits W + 1)]
            omega
    exact absurd hbelow htop.not_gt
  · exact hfin

end

/-- A number whose magnitude is one of the format is not changed by rounding (R13). -/
theorem roundTo_of_fits {W : Nat} (hW : W = 32 ∨ W = 64) (neg : Bool) {num den : Nat} (hden : 0 < den) {x : ℚ}
    (hx : x = signed neg ((num : ℚ) / den) * 2 ^ (-(unitExp W : ℤ))) (h : Fits W |x|) :
    Finite (roundTo W neg num den) ∧ val (roundTo W neg num den) = x := by
  obtain ⟨a, k, ha, hk, hy⟩ := h
  have hu : (0 : ℚ) < 2 ^ (-(unitExp W : ℤ)) := by positivity
  have hd : (den : ℚ) ≠ 0 := by exact_mod_cast hden.ne'
  rw [hx, abs_mul, abs_signed, abs_of_pos hu, abs_of_nonneg (by positivity)] at hy
  have hquot : (num : ℚ) / den = (a * 2 ^ k : ℕ) := mul_right_cancel₀ hu.ne' hy
  obtain rfl : num = a * 2 ^ k * den := by
    rw [div_eq_iff hd] at hquot
    exact_mod_cast hquot
  have hfin := finite_roundTo_of_lt hW neg ha hk hden
  refine ⟨hfin, ?_⟩
  rw [val_eq_signed hW, (roundTo_fields hW neg _ den).1, magnitude_roundTo hW neg _ hden hfin, gridValue_of_lt ha hden,
    hx, hquot]

theorem isZero_zero_pattern {W : Nat} (hW : W = 32 ∨ W = 64) : isZero (0 : BitVec W) = true := by
  rcases hW with rfl | rfl <;> decide

/-- A zero is finite. -/
theorem finite_of_isZero {W : Nat} (hW : W = 32 ∨ W = 64) {b : BitVec W} (h : isZero b = true) : Finite b := by
  obtain ⟨-, -, -, hmax, -, -⟩ := format_facts hW
  rw [finite_iff, (isZero_iff.1 h).1]
  omega

/-- Patterns of one value are equal, but for zeros of opposite sign. -/
theorem eq_of_val_eq {W : Nat} (hW : W = 32 ∨ W = 64) {a b : BitVec W} (h : val a = val b)
    (hopp : ¬OppositeZeros a b) : a = b := by
  rw [val_eq_scaled hW, val_eq_scaled hW] at h
  exact eq_of_scaled_eq hW (by exact_mod_cast mul_right_cancel₀ (zpow_ne_zero _ two_ne_zero) h) hopp

end Sys2Proof.Machine
end

section
namespace Sys2Proof.Machine

/-! ## Conversions between integers (R281, R282) -/

/-- Settles O53: sign extension keeps the signed number, truncation the number modulo 2^32. -/
theorem convertIntegerToInteger : Obligations.ConvertIntegerToInteger := by
  intro s rd ra
  refine ⟨?widening, ?narrowing⟩
  case widening => exact completesV_of_doneV rfl (lanes64_widen fun _ => toInt_sext64 _)
  case narrowing => exact completesV_of_doneV rfl (lowLanes32_narrow fun _ => toNat_low32 _)

/-! ## Integer to float (R283 to R286) -/

/-- An integer is its magnitude in units, with its sign. -/
theorem intCast_eq_units (W : Nat) (n : ℤ) :
    (n : ℚ) = signed (n < 0) (((n.natAbs * 2 ^ unitExp W : ℕ) : ℚ) / (1 : ℕ)) * 2 ^ (-(unitExp W : ℤ)) := by
  rw [Nat.cast_one, div_one, Nat.cast_mul, signed_mul, signed_natAbs, zpow_neg, Nat.cast_pow, Nat.cast_ofNat,
    zpow_natCast, mul_assoc, mul_inv_cancel₀ (by positivity), mul_one]

section
variable {W : Nat} (hW : W = 32 ∨ W = 64) (n : ℤ)
include hW

/-- `i2f` rounds the integer once (R17). -/
theorem fromIntResult_i2f : FromIntResult n (i2f W n) := by
  unfold FromIntResult i2f
  split_ifs with h0
  · rfl
  · exact isRound_of_units hW _ (Nat.mul_pos (Int.natAbs_pos.2 h0) (Nat.two_pow_pos _)) Nat.one_pos
      (intCast_eq_units W n)

/-- `i2f` gives the integer itself if it is a value of the format. -/
theorem i2f_of_fits (h : Fits W |(n : ℚ)|) : Finite (i2f W n) ∧ val (i2f W n) = n := by
  unfold i2f
  split_ifs with h0
  · have hz := isZero_zero_pattern hW
    exact ⟨finite_of_isZero hW hz, by rw [(val_eq_zero_iff hW).2 hz, h0, Int.cast_zero]⟩
  · exact roundTo_of_fits hW _ Nat.one_pos (intCast_eq_units W n) h

end

/-- Settles O54: the lane functions are `i2f` of the signed lane, and every 32-bit integer is a binary64 value. -/
theorem convertIntegerToFloat : Obligations.ConvertIntegerToFloat := by
  have h32 : (32 = 32 ∨ 32 = 64) := .inl rfl
  have h64 : (64 = 32 ∨ 64 = 64) := .inr rfl
  intro s rd ra
  refine ⟨?pi32ps, ?pi32pd, ?pi64ps, ?pi64pd⟩
  case pi32ps => exact completesV_of_vv32 rfl fun _ => fromIntResult_i2f h32 _
  case pi32pd =>
    exact completesV_of_doneV rfl
      (lanes64_widen fun _ => ⟨fromIntResult_i2f h64 _, i2f_of_fits h64 _ (fits64_abs_toInt _)⟩)
  case pi64ps => exact completesV_of_doneV rfl (lowLanes32_narrow fun _ => fromIntResult_i2f h32 _)
  case pi64pd => exact completesV_of_vv64 rfl fun _ => fromIntResult_i2f h64 _

/-! ## Float to integer (R287 to R293) -/

/-! ### The three roundings (R17) -/

/-- A real has one nearest integer, ties to even. -/
theorem rne_unique {x : ℚ} {n n' : ℤ} (h : RoundsTo .rne x n) (h' : RoundsTo .rne x n') : n = n' := by
  obtain ⟨hnear, heven⟩ := h
  obtain ⟨hnear', heven'⟩ := h'
  by_contra hne
  have hapart : (1 : ℚ) ≤ |(n : ℚ) - n'| := by exact_mod_cast Int.one_le_abs (sub_ne_zero.2 hne)
  have hsum : |(n : ℚ) - n'| ≤ |x - n| + |x - n'| := by
    calc |(n : ℚ) - n'| = |(x - n') - (x - n)| := by congr 1; ring
      _ ≤ |x - n'| + |x - n| := abs_sub _ _
      _ = _ := add_comm _ _
  have hdist : |n - n'| = 1 := by
    have hle : |(n : ℚ) - n'| ≤ 1 := by linarith
    exact le_antisymm (by exact_mod_cast hle) (by exact_mod_cast hapart)
  have heq := heven (by linarith)
  have heq' := heven' (by linarith)
  have hsub : Even |n - n'| := even_abs.2 (heq.sub heq')
  rw [hdist] at hsub
  exact absurd hsub (by decide)

/-- Each rounding of R17 gives one integer. -/
theorem roundsTo_unique {rnd : Rounding} {x : ℚ} {n n' : ℤ} (h : RoundsTo rnd x n) (h' : RoundsTo rnd x n') :
    n = n' := by
  cases rnd with
  | rne => exact rne_unique h h'
  | trunc => exact h.trans h'.symm
  | floor => exact h.trans h'.symm

/-- The quotient rounded to nearest even, for either sign of the numerator. -/
theorem roundsTo_rne_apply (n : ℤ) {d : Nat} (hd : 0 < d) : RoundsTo .rne ((n : ℚ) / d) (Rounding.rne.apply n d) := by
  obtain ⟨hnear, heven⟩ := abs_sub_rneDiv n.natAbs hd
  have hparity : |(n.natAbs : ℚ) / d - rneDiv n.natAbs d| = 1 / 2 → Even (rneDiv n.natAbs d : ℤ) := fun h =>
    (Int.even_coe_nat _).2 (Nat.even_iff.2 (heven h))
  have hval : (n : ℚ) / d = signed (n < 0) ((n.natAbs : ℚ) / d) := by
    rw [div_eq_mul_inv, div_eq_mul_inv, signed_mul, signed_natAbs]
  have happly : ((Rounding.rne.apply n d : ℤ) : ℚ) = signed (n < 0) (rneDiv n.natAbs d : ℚ) := by
    by_cases hn : n < 0 <;> simp [Rounding.apply, signed, hn]
  have hdist : |(n : ℚ) / d - (Rounding.rne.apply n d : ℤ)| = |(n.natAbs : ℚ) / d - rneDiv n.natAbs d| := by
    rw [hval, happly, signed_sub, abs_signed]
  refine ⟨hdist.trans_le hnear, fun htie => ?_⟩
  have := hparity (hdist.symm.trans htie)
  rw [Rounding.apply]
  split_ifs
  · exact this.neg
  · exact this

/-- Integer division toward zero is the floor of a quotient that is not negative, and else the ceiling. -/
theorem roundsTo_trunc_apply (n : ℤ) {d : Nat} (hd : 0 < d) :
    RoundsTo .trunc ((n : ℚ) / d) (Rounding.trunc.apply n d) := by
  have hd' : (0 : ℚ) < d := by exact_mod_cast hd
  change n.tdiv d = _
  rcases le_or_gt 0 n with hn | hn
  · rw [if_pos (div_nonneg (by exact_mod_cast hn) hd'.le), Rat.floor_intCast_div_natCast, Int.tdiv_eq_ediv_of_nonneg hn]
  · rw [if_neg (not_le.2 (div_neg_of_neg_of_pos (by exact_mod_cast hn) hd')), Rat.ceil_intCast_div_natCast,
      ← Int.tdiv_eq_ediv_of_nonneg (by omega), Int.neg_tdiv, neg_neg]

/-- The model rounds a fraction as R17 says. -/
theorem roundsTo_apply (rnd : Rounding) (n : ℤ) {d : Nat} (hd : 0 < d) :
    RoundsTo rnd ((n : ℚ) / d) (rnd.apply n d) := by
  cases rnd with
  | rne => exact roundsTo_rne_apply n hd
  | trunc => exact roundsTo_trunc_apply n hd
  | floor => exact (Int.fdiv_eq_ediv_of_nonneg n (Int.natCast_nonneg d)).trans (Rat.floor_intCast_div_natCast n d).symm

/-- Every rounding keeps an integer. -/
theorem roundsTo_intCast (rnd : Rounding) (n : ℤ) : RoundsTo rnd (n : ℚ) n := by
  cases rnd with
  | rne => exact ⟨by simp, by simp⟩
  | trunc => simp [RoundsTo]
  | floor => simp [RoundsTo]

section
variable {W WD : Nat} (hW : W = 32 ∨ W = 64) (hWD : 0 < WD) {p : Params} {op : BitVec 8} {k k2 : Kind} {rnd : Rounding}
include hW hWD

/-- The lane of a float to integer convert is the rounded value wherever that is in range (R287). -/
theorem toIntResult_toIntLane (b : BitVec W) : ToIntResult rnd b (toIntLane p op k k2 rnd WD b) := by
  intro hfin n hn hlo hhi
  have hval : val b = (scaled b : ℚ) / (2 ^ unitExp W : ℕ) := by
    rw [val_eq_scaled hW, zpow_neg, zpow_natCast, Nat.cast_pow, Nat.cast_ofNat, div_eq_mul_inv]
  rw [hval] at hn
  obtain rfl := roundsTo_unique (roundsTo_apply rnd (scaled b) (Nat.two_pow_pos (unitExp W))) hn
  have hspecial : ¬(isNaN b || isInf b) = true := by simp [isNaN_of_finite hfin, isInf_of_finite hfin]
  rw [toIntLane, f2i, if_neg hspecial, if_pos ⟨hlo, hhi⟩]
  exact BitVec.toInt_ofInt_eq_self hWD hlo (by omega)

/-- An integer that is a value of the float format comes back from it, by every rounding (R296). -/
theorem toIntLane_i2f {x : BitVec WD} (h : Fits W |(x.toInt : ℚ)|) :
    toIntLane p op k k2 rnd WD (i2f W x.toInt) = x := by
  obtain ⟨hfin, hval⟩ := i2f_of_fits hW x.toInt h
  have hhi := x.toInt_lt
  refine BitVec.toInt_inj.1 (toIntResult_toIntLane hW hWD _ hfin x.toInt ?_ x.le_toInt (by omega))
  rw [hval]
  exact roundsTo_intCast rnd x.toInt

end

/-- Settles O55: the lane function is `toIntLane`, with the rounding of the instruction. -/
theorem convertFloatToInteger : Obligations.ConvertFloatToInteger := by
  have h32 : (32 = 32 ∨ 32 = 64) := .inl rfl
  have h64 : (64 = 32 ∨ 64 = 64) := .inr rfl
  have hpos32 : 0 < 32 := by decide
  have hpos64 : 0 < 64 := by decide
  intro s rd ra
  refine ⟨List.forall_iff_forall_mem.1 ⟨?ps32a, ?ps32b, ?ps32c⟩, List.forall_iff_forall_mem.1 ⟨?ps64a, ?ps64b, ?ps64c⟩,
    List.forall_iff_forall_mem.1 ⟨?pd32a, ?pd32b, ?pd32c⟩, List.forall_iff_forall_mem.1 ⟨?pd64a, ?pd64b, ?pd64c⟩⟩
  case ps32a | ps32b | ps32c => exact completesV_of_vv32 rfl fun _ => toIntResult_toIntLane h32 hpos32 _
  case ps64a | ps64b | ps64c =>
    exact completesV_of_doneV rfl (lanes64_widen fun _ => toIntResult_toIntLane h32 hpos64 _)
  case pd32a | pd32b | pd32c =>
    exact completesV_of_doneV rfl (lowLanes32_narrow fun _ => toIntResult_toIntLane h64 hpos32 _)
  case pd64a | pd64b | pd64c => exact completesV_of_vv64 rfl fun _ => toIntResult_toIntLane h64 hpos64 _

/-! ## Float to float (R294, R295) -/

/-- The value of a pattern of one width, in units of another. -/
theorem val_eq_units {W : Nat} (hW : W = 32 ∨ W = 64) (WD : Nat) (b : BitVec W) :
    val b = signed (signOf b) (((magnitude b * 2 ^ unitExp WD : ℕ) : ℚ) / (2 ^ unitExp W : ℕ)) *
      2 ^ (-(unitExp WD : ℤ)) := by
  rw [val_eq_signed hW, Nat.cast_mul, mul_div_right_comm, signed_mul, Nat.cast_pow, Nat.cast_pow, Nat.cast_ofNat,
    zpow_neg, zpow_neg, zpow_natCast, zpow_natCast, mul_assoc, mul_inv_cancel₀ (by positivity), mul_one,
    div_eq_mul_inv, signed_mul]

section
variable {W WD : Nat} {nan : BitVec WD} {b : BitVec W}

theorem f2f_of_isInf (h : isInf b = true) : f2f WD nan b = infinity WD (signOf b) := by
  rw [f2f, isNaN_of_isInf h, h, if_neg (by decide), if_pos rfl]

theorem f2f_of_isZero (hW : W = 32 ∨ W = 64) (h : isZero b = true) : f2f WD nan b = zero WD (signOf b) := by
  have hfin := finite_of_isZero hW h
  rw [f2f, isNaN_of_finite hfin, isInf_of_finite hfin, h, if_neg (by decide), if_neg (by decide), if_pos rfl]

theorem f2f_of_finite (hfin : Finite b) (hz : isZero b = false) :
    f2f WD nan b = roundTo WD (signOf b) (magnitude b * 2 ^ unitExp WD) (2 ^ unitExp W) := by
  rw [f2f, isNaN_of_finite hfin, isInf_of_finite hfin, hz, if_neg (by decide), if_neg (by decide), if_neg (by decide)]

variable (hW : W = 32 ∨ W = 64) (hWD : WD = 32 ∨ WD = 64)
include hW hWD

/-- `f2f` gives the pattern of R17, whatever NaN it is handed. -/
theorem resizeResult_f2f (hnan : isNaN nan = true) (b : BitVec W) : ResizeResult b (f2f WD nan b) := by
  unfold ResizeResult
  split_ifs with hn hi h0
  · rw [f2f, if_pos hn]; exact hnan
  · rw [f2f_of_isInf hi]; exact isInfinity_infinity hWD _
  · rw [f2f_of_isZero hW ((val_eq_zero_iff hW).1 h0)]; exact isZero_zero hWD _
  · have hz : isZero b = false := Bool.eq_false_iff.2 (mt (val_eq_zero_iff hW).2 h0)
    rw [f2f_of_finite (finite_of_not_special (Bool.eq_false_iff.2 hn) (Bool.eq_false_iff.2 hi)) hz]
    exact isRound_of_units hWD _ (Nat.mul_pos (magnitude_pos hz) (Nat.two_pow_pos _)) (Nat.two_pow_pos _)
      (val_eq_units hW WD b)

/-- `f2f` keeps a value that the result's format has. -/
theorem f2f_of_fits (hfin : Finite b) (h : Fits WD |val b|) : Finite (f2f WD nan b) ∧ val (f2f WD nan b) = val b := by
  by_cases hz : isZero b = true
  · have hzero := (isZero_zero hWD (signOf b)).1
    rw [f2f_of_isZero hW hz, (val_eq_zero_iff hW).2 hz]
    exact ⟨finite_of_isZero hWD hzero, (val_eq_zero_iff hWD).2 hzero⟩
  · rw [f2f_of_finite hfin (Bool.eq_false_iff.2 hz)]
    exact roundTo_of_fits hWD _ (Nat.two_pow_pos _) (val_eq_units hW WD b) h

end

/-- Settles O56: the lane function is `f2f` with a drawn NaN, and every binary32 value is a binary64 value. -/
theorem convertFloatToFloat : Obligations.ConvertFloatToFloat := by
  have h32 : (32 = 32 ∨ 32 = 64) := .inl rfl
  have h64 : (64 = 32 ∨ 64 = 64) := .inr rfl
  intro s rd ra
  refine ⟨?widening, ?narrowing⟩
  case widening =>
    refine completesV_of_doneV rfl (lanes64_widen fun _ => ⟨?_, fun hfin => ?_⟩)
    · exact resizeResult_f2f h32 h64 (isNaN_nanDraw h64 ..) _
    · exact f2f_of_fits h32 h64 hfin (fits64_of_fits32 (fits_abs_val h32 hfin))
  case narrowing =>
    exact completesV_of_doneV rfl (lowLanes32_narrow fun _ => resizeResult_f2f h64 h32 (isNaN_nanDraw h32 ..) _)

/-! ## Conversions there and back (R296) -/

/-- An infinity is determined by its sign. -/
theorem eq_of_isInfinity {W : Nat} (hW : W = 32 ∨ W = 64) {neg : Bool} {a b : BitVec W} (ha : IsInfinity neg a)
    (hb : IsInfinity neg b) : a = b := by
  obtain ⟨hea, hfa⟩ := isInf_iff.1 ha.1
  obtain ⟨heb, hfb⟩ := isInf_iff.1 hb.1
  exact eq_of_fields hW (ha.2.trans hb.2.symm) (hea.trans heb.symm) (hfa.trans hfb.symm)

/-- A zero is determined by its sign. -/
theorem eq_of_isZero {W : Nat} (hW : W = 32 ∨ W = 64) {neg : Bool} {a b : BitVec W} (ha : IsZero neg a)
    (hb : IsZero neg b) : a = b := by
  obtain ⟨hea, hfa⟩ := isZero_iff.1 ha.1
  obtain ⟨heb, hfb⟩ := isZero_iff.1 hb.1
  exact eq_of_fields hW (ha.2.trans hb.2.symm) (hea.trans heb.symm) (hfa.trans hfb.symm)

/-- A binary32 pattern that is no NaN comes back from binary64, an infinity and a zero with its sign (R296). -/
theorem f2f_f2f {nan : BitVec 32} {nan' : BitVec 64} {b : BitVec 32} (hn : isNaN b = false) :
    f2f 32 nan (f2f 64 nan' b) = b := by
  have h32 : (32 = 32 ∨ 32 = 64) := .inl rfl
  have h64 : (64 = 32 ∨ 64 = 64) := .inr rfl
  by_cases hi : isInf b = true
  · obtain ⟨hinf, hsign⟩ := isInfinity_infinity h64 (signOf b)
    rw [f2f_of_isInf hi, f2f_of_isInf hinf, signOf, hsign]
    exact eq_of_isInfinity h32 (isInfinity_infinity h32 _) ⟨hi, rfl⟩
  · by_cases hz : isZero b = true
    · obtain ⟨hzero, hsign⟩ := isZero_zero h64 (signOf b)
      rw [f2f_of_isZero h32 hz, f2f_of_isZero h64 hzero, signOf, hsign]
      exact eq_of_isZero h32 (isZero_zero h32 _) ⟨hz, rfl⟩
    · have hfin := finite_of_not_special hn (Bool.eq_false_iff.2 hi)
      have hfits := fits_abs_val h32 hfin
      obtain ⟨hfin', hval'⟩ := f2f_of_fits (nan := nan') h32 h64 hfin (fits64_of_fits32 hfits)
      obtain ⟨-, hval⟩ := f2f_of_fits (nan := nan) h64 h32 hfin' (by rw [hval']; exact hfits)
      exact eq_of_val_eq h32 (hval.trans hval') fun hopp => hz hopp.2.1

/-- An instruction reads what the one before it wrote to `v[rq]`. -/
theorem exec_doneV_then_doneV {i j : Instr} {s : State} {rd rq : VReg} {x : Vec} {P : Vec → Prop}
    (f : State → Vec → Vec) (hi : exec i s = doneV s rq x) (hj : ∀ t, exec j t = doneV t rd (f t (readV t rq)))
    (hP : ∀ t, P (f t x)) : ∃ t u, exec i s = .next t ∧ exec j t = .next u ∧ P (readV u rd) := by
  refine ⟨_, _, hi, hj _, ?_⟩
  rw [readV_advance, readV_writeV_self, readV_advance, readV_writeV_self]
  exact hP _

/-- 32-bit integers through binary32. -/
theorem exec_pi32_ps_pi32 {i : Instr} (rd rq ra : VReg) (s : State) (op : BitVec 8) (rnd : Rounding)
    (hi : ∀ t, exec i t = vv32 (toIntLane t.params op .ps .pi32 rnd 32) rd rq t) :
    ∃ t u, exec (.cvtPi32Ps rq ra) s = .next t ∧ exec i t = .next u ∧ ∀ j < 4,
      (∃ b : BitVec 32, Finite b ∧ val b = (v32 s ra j).toInt) → v32 u rd j = v32 s ra j := by
  refine exec_doneV_then_doneV (fun t => map32 (toIntLane t.params op .ps .pi32 rnd 32)) rfl hi
    (P := fun x => ∀ j < 4, (∃ b : BitVec 32, Finite b ∧ val b = (v32 s ra j).toInt) → lane 32 x j = v32 s ra j) ?_
  rintro t j hj ⟨b, hfin, hb⟩
  rw [lane_map32 _ _ hj, lane_map32 _ _ hj]
  exact toIntLane_i2f (.inl rfl) (by decide) (hb ▸ fits_abs_val (.inl rfl) hfin)

/-- 64-bit integers through binary64. -/
theorem exec_pi64_pd_pi64 {i : Instr} (rd rq ra : VReg) (s : State) (op : BitVec 8) (rnd : Rounding)
    (hi : ∀ t, exec i t = vv64 (toIntLane t.params op .pd .pi64 rnd 64) rd rq t) :
    ∃ t u, exec (.cvtPi64Pd rq ra) s = .next t ∧ exec i t = .next u ∧ ∀ j < 2,
      (∃ b : BitVec 64, Finite b ∧ val b = (v64 s ra j).toInt) → v64 u rd j = v64 s ra j := by
  refine exec_doneV_then_doneV (fun t => map64 (toIntLane t.params op .pd .pi64 rnd 64)) rfl hi
    (P := fun x => ∀ j < 2, (∃ b : BitVec 64, Finite b ∧ val b = (v64 s ra j).toInt) → lane 64 x j = v64 s ra j) ?_
  rintro t j hj ⟨b, hfin, hb⟩
  rw [lane_map64 _ _ hj, lane_map64 _ _ hj]
  exact toIntLane_i2f (.inr rfl) (by decide) (hb ▸ fits_abs_val (.inr rfl) hfin)

/-- 32-bit integers through binary64, which has them all. -/
theorem exec_pi32_pd_pi32 {i : Instr} (rd rq ra : VReg) (s : State) (op : BitVec 8) (rnd : Rounding)
    (hi : ∀ t, exec i t = vvNarrow (toIntLane t.params op .pd .pi32 rnd 32) rd rq t) :
    ∃ t u, exec (.cvtPi32Pd rq ra) s = .next t ∧ exec i t = .next u ∧ ∀ j < 2, v32 u rd j = v32 s ra j := by
  refine exec_doneV_then_doneV (fun t => narrow (toIntLane t.params op .pd .pi32 rnd 32)) rfl hi
    (P := fun x => ∀ j < 2, lane 32 x j = v32 s ra j) fun t j hj => ?_
  rw [lane_narrow _ _ (by omega), if_pos hj, lane_widen _ _ hj]
  exact toIntLane_i2f (.inr rfl) (by decide) (fits64_abs_toInt _)

/-- Settles O57: in each lane the second conversion undoes the first. -/
theorem convertRoundTrips : Obligations.ConvertRoundTrips := by
  intro s rd rq ra
  refine ⟨List.forall_iff_forall_mem.1 ⟨?ps1, ?ps2, ?ps3⟩, List.forall_iff_forall_mem.1 ⟨?pd1, ?pd2, ?pd3⟩,
    List.forall_iff_forall_mem.1 ⟨?wide1, ?wide2, ?wide3⟩, ?floats⟩
  case ps1 | ps2 | ps3 => exact exec_pi32_ps_pi32 rd rq ra s _ _ fun _ => rfl
  case pd1 | pd2 | pd3 => exact exec_pi64_pd_pi64 rd rq ra s _ _ fun _ => rfl
  case wide1 | wide2 | wide3 => exact exec_pi32_pd_pi32 rd rq ra s _ _ fun _ => rfl
  case floats =>
    refine exec_doneV_then_doneV (fun t => narrow fun x => f2f 32 (nanDraw 32 t.params 0xA0 .pd [x]) x) rfl
      (fun _ => rfl) (P := fun x => (∀ j < 2, isNaN (v32 s ra j) = false → lane 32 x j = v32 s ra j) ∧
        lane 32 x 2 = 0 ∧ lane 32 x 3 = 0)
      fun t => ⟨fun j hj hn => ?_, lane_narrow _ _ (by decide), lane_narrow _ _ (by decide)⟩
    rw [lane_narrow _ _ (by omega), if_pos hj, lane_widen _ _ hj]
    exact f2f_f2f hn

end Sys2Proof.Machine
end
